-- ==== Sys2Proof/Word.lean ====
section
/-!
DEFINITION. Sys2Proof/Word.lean: the word types of the machine.

An x register, pc, a CSR and an address have XLEN bits (R8, R21), XLEN being a parameter of the model (R6 a). They are
held in a 64-bit container; with XLEN = 32 the upper half of the container is zero (log 10).
-/
namespace Sys2Proof

/-- The container of an XLEN-bit or FLEN-bit value. -/
abbrev Word := BitVec 64

/-- One byte of memory (R70). -/
abbrev Byte := BitVec 8

/-- A 5-bit x-register number (R21). -/
abbrev Reg := BitVec 5

/-- A 5-bit f-register number (R28). -/
abbrev FReg := BitVec 5

/-- A 3-bit register field of a compressed instruction; it names register 8 + field (R24, R160). -/
abbrev CReg := BitVec 3

/-- XLEN, the width of an x register (R6 a). -/
inductive Xlen where
  | rv32
  | rv64
deriving DecidableEq, Repr

/-- XLEN as a number of bits. -/
def Xlen.bits : Xlen → Nat
  | .rv32 => 32
  | .rv64 => 64

end Sys2Proof
end

