-- ==== Sys2Proof/Machine/Alu.lean ====
section
/-!
DEFINITION. Sys2Proof/Machine/Alu.lean: the integer functions, at any width.

XLEN-wide instructions apply them at width XLEN, the word forms at 32 bits (R200 f, R340 e), the AMOs at the width of
the access (R360 c).
-/
namespace Sys2Proof.Machine.Alu

/-- Sum and difference modulo 2^n (R201, R227). -/
def add (n : Nat) (a b : BitVec n) : BitVec n := a + b
def sub (n : Nat) (a b : BitVec n) : BitVec n := a - b

/-- Bitwise operations (R205, R209, R229). -/
def and (n : Nat) (a b : BitVec n) : BitVec n := a &&& b
def or (n : Nat) (a b : BitVec n) : BitVec n := a ||| b
def xor (n : Nat) (a b : BitVec n) : BitVec n := a ^^^ b

/-- Shifts; the amount is the low log2 n bits of b (R211, R219, R223), n being 32 or 64. -/
def sll (n : Nat) (a b : BitVec n) : BitVec n := a <<< (b.toNat % n)
def srl (n : Nat) (a b : BitVec n) : BitVec n := a >>> (b.toNat % n)
def sra (n : Nat) (a b : BitVec n) : BitVec n := a.sshiftRight (b.toNat % n)

/-- 1 when a is less than b, as two's complement and as unsigned numbers; else 0 (R215, R218). -/
def slt (n : Nat) (a b : BitVec n) : BitVec n := if a.toInt < b.toInt then 1 else 0
def sltu (n : Nat) (a b : BitVec n) : BitVec n := if a.toNat < b.toNat then 1 else 0

/-- The low half of the product (R345). -/
def mul (n : Nat) (a b : BitVec n) : BitVec n := a * b

/-- The high half of the product of two signed, a signed and an unsigned, two unsigned operands (R346 to R348). -/
def mulh (n : Nat) (a b : BitVec n) : BitVec n := BitVec.ofInt n (a.toInt * b.toInt / 2 ^ n)
def mulhsu (n : Nat) (a b : BitVec n) : BitVec n := BitVec.ofInt n (a.toInt * (b.toNat : Int) / 2 ^ n)
def mulhu (n : Nat) (a b : BitVec n) : BitVec n := BitVec.ofNat n (a.toNat * b.toNat / 2 ^ n)

/-- Signed division rounding toward zero; a zero divisor gives all ones, overflow the dividend (R340 c, d; R341). -/
def div (n : Nat) (a b : BitVec n) : BitVec n :=
  if b = 0 then BitVec.allOnes n else BitVec.ofInt n (a.toInt.tdiv b.toInt)

/-- Unsigned division; a zero divisor gives all ones (R340 d, R342). -/
def divu (n : Nat) (a b : BitVec n) : BitVec n :=
  if b = 0 then BitVec.allOnes n else BitVec.ofNat n (a.toNat / b.toNat)

/-- The remainder of the signed division, with the sign of the dividend; a zero divisor gives the dividend, overflow 0
(R340 c, d; R350). -/
def rem (n : Nat) (a b : BitVec n) : BitVec n :=
  if b = 0 then a else BitVec.ofInt n (a.toInt.tmod b.toInt)

/-- The remainder of the unsigned division; a zero divisor gives the dividend (R340 d, R351). -/
def remu (n : Nat) (a b : BitVec n) : BitVec n :=
  if b = 0 then a else BitVec.ofNat n (a.toNat % b.toNat)

/-- The second operand: what amoswap stores (R375). -/
def second (n : Nat) (_ b : BitVec n) : BitVec n := b

/-- Minimum and maximum, as two's complement and as unsigned numbers (R360 e). -/
def min (n : Nat) (a b : BitVec n) : BitVec n := if a.toInt ≤ b.toInt then a else b
def max (n : Nat) (a b : BitVec n) : BitVec n := if a.toInt ≤ b.toInt then b else a
def minu (n : Nat) (a b : BitVec n) : BitVec n := if a.toNat ≤ b.toNat then a else b
def maxu (n : Nat) (a b : BitVec n) : BitVec n := if a.toNat ≤ b.toNat then b else a

/-- The conditions of the branches (R261 to R266). -/
def eq (n : Nat) (a b : BitVec n) : Bool := a == b
def ne (n : Nat) (a b : BitVec n) : Bool := a != b
def lt (n : Nat) (a b : BitVec n) : Bool := decide (a.toInt < b.toInt)
def ge (n : Nat) (a b : BitVec n) : Bool := decide (b.toInt ≤ a.toInt)
def ltu (n : Nat) (a b : BitVec n) : Bool := decide (a.toNat < b.toNat)
def geu (n : Nat) (a b : BitVec n) : Bool := decide (b.toNat ≤ a.toNat)

end Sys2Proof.Machine.Alu
end

