-- ==== Sys2Proof/Syntax.lean ====
section
/-!
DEFINITION. Sys2Proof/Syntax.lean: the instructions, one constructor for every row of spec/opcode_table.json.

Register numbers are raw 5-bit fields, 3-bit fields in the compressed forms that have them. An offset or a scaled
immediate is the byte value (R161: "the operand is the final byte value"), so its always-zero low bits are part of it and
WellFormed.lean asks that they are zero. `rm` is the raw field of R402.
-/
namespace Sys2Proof

/-- An instruction (R4: 160 of 32 bits and 41 of 16 bits). -/
inductive Instr where
  -- Integer computation (40_rv_i_integer.md)
  /-- `add` (R201). -/
  | add (rd rs1 rs2 : Reg)
  /-- `addi` (R202). -/
  | addi (rd rs1 : Reg) (imm : BitVec 12)
  /-- `addiw` (R203). -/
  | addiw (rd rs1 : Reg) (imm : BitVec 12)
  /-- `addw` (R204). -/
  | addw (rd rs1 rs2 : Reg)
  /-- `and` (R205). -/
  | and (rd rs1 rs2 : Reg)
  /-- `andi` (R206). -/
  | andi (rd rs1 : Reg) (imm : BitVec 12)
  /-- `auipc` (R207). -/
  | auipc (rd : Reg) (imm : BitVec 20)
  /-- `lui` (R208). -/
  | lui (rd : Reg) (imm : BitVec 20)
  /-- `or` (R209). -/
  | or (rd rs1 rs2 : Reg)
  /-- `ori` (R210). -/
  | ori (rd rs1 : Reg) (imm : BitVec 12)
  /-- `sll` (R211). -/
  | sll (rd rs1 rs2 : Reg)
  /-- `slli` (R212). -/
  | slli (rd rs1 : Reg) (shamt : BitVec 6)
  /-- `slliw` (R213). -/
  | slliw (rd rs1 : Reg) (shamt : BitVec 5)
  /-- `sllw` (R214). -/
  | sllw (rd rs1 rs2 : Reg)
  /-- `slt` (R215). -/
  | slt (rd rs1 rs2 : Reg)
  /-- `slti` (R216). -/
  | slti (rd rs1 : Reg) (imm : BitVec 12)
  /-- `sltiu` (R217). -/
  | sltiu (rd rs1 : Reg) (imm : BitVec 12)
  /-- `sltu` (R218). -/
  | sltu (rd rs1 rs2 : Reg)
  /-- `sra` (R219). -/
  | sra (rd rs1 rs2 : Reg)
  /-- `srai` (R220). -/
  | srai (rd rs1 : Reg) (shamt : BitVec 6)
  /-- `sraiw` (R221). -/
  | sraiw (rd rs1 : Reg) (shamt : BitVec 5)
  /-- `sraw` (R222). -/
  | sraw (rd rs1 rs2 : Reg)
  /-- `srl` (R223). -/
  | srl (rd rs1 rs2 : Reg)
  /-- `srli` (R224). -/
  | srli (rd rs1 : Reg) (shamt : BitVec 6)
  /-- `srliw` (R225). -/
  | srliw (rd rs1 : Reg) (shamt : BitVec 5)
  /-- `srlw` (R226). -/
  | srlw (rd rs1 rs2 : Reg)
  /-- `sub` (R227). -/
  | sub (rd rs1 rs2 : Reg)
  /-- `subw` (R228). -/
  | subw (rd rs1 rs2 : Reg)
  /-- `xor` (R229). -/
  | xor (rd rs1 rs2 : Reg)
  /-- `xori` (R230). -/
  | xori (rd rs1 : Reg) (imm : BitVec 12)
  -- Control transfer (41_rv_i_control.md)
  /-- `beq` (R261). -/
  | beq (rs1 rs2 : Reg) (offset : BitVec 13)
  /-- `bge` (R262). -/
  | bge (rs1 rs2 : Reg) (offset : BitVec 13)
  /-- `bgeu` (R263). -/
  | bgeu (rs1 rs2 : Reg) (offset : BitVec 13)
  /-- `blt` (R264). -/
  | blt (rs1 rs2 : Reg) (offset : BitVec 13)
  /-- `bltu` (R265). -/
  | bltu (rs1 rs2 : Reg) (offset : BitVec 13)
  /-- `bne` (R266). -/
  | bne (rs1 rs2 : Reg) (offset : BitVec 13)
  /-- `jal` (R267). -/
  | jal (rd : Reg) (offset : BitVec 21)
  /-- `jalr` (R268). -/
  | jalr (rd rs1 : Reg) (offset : BitVec 12)
  -- Loads, stores and fences (42_rv_i_loadstore.md)
  /-- `fence` (R281). -/
  | fence (pred succ : BitVec 4)
  /-- `fence.i` (R282). -/
  | fenceI
  /-- `lb` (R283). -/
  | lb (rd rs1 : Reg) (offset : BitVec 12)
  /-- `lbu` (R284). -/
  | lbu (rd rs1 : Reg) (offset : BitVec 12)
  /-- `ld` (R285). -/
  | ld (rd rs1 : Reg) (offset : BitVec 12)
  /-- `lh` (R286). -/
  | lh (rd rs1 : Reg) (offset : BitVec 12)
  /-- `lhu` (R287). -/
  | lhu (rd rs1 : Reg) (offset : BitVec 12)
  /-- `lw` (R288). -/
  | lw (rd rs1 : Reg) (offset : BitVec 12)
  /-- `lwu` (R289). -/
  | lwu (rd rs1 : Reg) (offset : BitVec 12)
  /-- `sb` (R290). -/
  | sb (rs2 rs1 : Reg) (offset : BitVec 12)
  /-- `sd` (R291). -/
  | sd (rs2 rs1 : Reg) (offset : BitVec 12)
  /-- `sh` (R292). -/
  | sh (rs2 rs1 : Reg) (offset : BitVec 12)
  /-- `sw` (R293). -/
  | sw (rs2 rs1 : Reg) (offset : BitVec 12)
  -- CSR, environment and privileged instructions (43_rv_i_system.md)
  /-- `csrrc` (R311). -/
  | csrrc (rd : Reg) (csr : BitVec 12) (rs1 : Reg)
  /-- `csrrci` (R312). -/
  | csrrci (rd : Reg) (csr : BitVec 12) (zimm : BitVec 5)
  /-- `csrrs` (R313). -/
  | csrrs (rd : Reg) (csr : BitVec 12) (rs1 : Reg)
  /-- `csrrsi` (R314). -/
  | csrrsi (rd : Reg) (csr : BitVec 12) (zimm : BitVec 5)
  /-- `csrrw` (R315). -/
  | csrrw (rd : Reg) (csr : BitVec 12) (rs1 : Reg)
  /-- `csrrwi` (R316). -/
  | csrrwi (rd : Reg) (csr : BitVec 12) (zimm : BitVec 5)
  /-- `ebreak` (R317). -/
  | ebreak
  /-- `ecall` (R318). -/
  | ecall
  /-- `mret` (R319). -/
  | mret
  /-- `sfence.vma` (R320). -/
  | sfenceVma (rs1 rs2 : Reg)
  /-- `sret` (R321). -/
  | sret
  /-- `wfi` (R322). -/
  | wfi
  -- M extension (44_rv_m.md)
  /-- `div` (R341). -/
  | div (rd rs1 rs2 : Reg)
  /-- `divu` (R342). -/
  | divu (rd rs1 rs2 : Reg)
  /-- `divuw` (R343). -/
  | divuw (rd rs1 rs2 : Reg)
  /-- `divw` (R344). -/
  | divw (rd rs1 rs2 : Reg)
  /-- `mul` (R345). -/
  | mul (rd rs1 rs2 : Reg)
  /-- `mulh` (R346). -/
  | mulh (rd rs1 rs2 : Reg)
  /-- `mulhsu` (R347). -/
  | mulhsu (rd rs1 rs2 : Reg)
  /-- `mulhu` (R348). -/
  | mulhu (rd rs1 rs2 : Reg)
  /-- `mulw` (R349). -/
  | mulw (rd rs1 rs2 : Reg)
  /-- `rem` (R350). -/
  | rem (rd rs1 rs2 : Reg)
  /-- `remu` (R351). -/
  | remu (rd rs1 rs2 : Reg)
  /-- `remuw` (R352). -/
  | remuw (rd rs1 rs2 : Reg)
  /-- `remw` (R353). -/
  | remw (rd rs1 rs2 : Reg)
  -- A extension (45_rv_a.md)
  /-- `amoadd.d` (R361). -/
  | amoaddD (aq rl : Bool) (rd rs1 rs2 : Reg)
  /-- `amoadd.w` (R362). -/
  | amoaddW (aq rl : Bool) (rd rs1 rs2 : Reg)
  /-- `amoand.d` (R363). -/
  | amoandD (aq rl : Bool) (rd rs1 rs2 : Reg)
  /-- `amoand.w` (R364). -/
  | amoandW (aq rl : Bool) (rd rs1 rs2 : Reg)
  /-- `amomax.d` (R365). -/
  | amomaxD (aq rl : Bool) (rd rs1 rs2 : Reg)
  /-- `amomax.w` (R366). -/
  | amomaxW (aq rl : Bool) (rd rs1 rs2 : Reg)
  /-- `amomaxu.d` (R367). -/
  | amomaxuD (aq rl : Bool) (rd rs1 rs2 : Reg)
  /-- `amomaxu.w` (R368). -/
  | amomaxuW (aq rl : Bool) (rd rs1 rs2 : Reg)
  /-- `amomin.d` (R369). -/
  | amominD (aq rl : Bool) (rd rs1 rs2 : Reg)
  /-- `amomin.w` (R370). -/
  | amominW (aq rl : Bool) (rd rs1 rs2 : Reg)
  /-- `amominu.d` (R371). -/
  | amominuD (aq rl : Bool) (rd rs1 rs2 : Reg)
  /-- `amominu.w` (R372). -/
  | amominuW (aq rl : Bool) (rd rs1 rs2 : Reg)
  /-- `amoor.d` (R373). -/
  | amoorD (aq rl : Bool) (rd rs1 rs2 : Reg)
  /-- `amoor.w` (R374). -/
  | amoorW (aq rl : Bool) (rd rs1 rs2 : Reg)
  /-- `amoswap.d` (R375). -/
  | amoswapD (aq rl : Bool) (rd rs1 rs2 : Reg)
  /-- `amoswap.w` (R376). -/
  | amoswapW (aq rl : Bool) (rd rs1 rs2 : Reg)
  /-- `amoxor.d` (R377). -/
  | amoxorD (aq rl : Bool) (rd rs1 rs2 : Reg)
  /-- `amoxor.w` (R378). -/
  | amoxorW (aq rl : Bool) (rd rs1 rs2 : Reg)
  /-- `lr.d` (R379). -/
  | lrD (aq rl : Bool) (rd rs1 : Reg)
  /-- `lr.w` (R380). -/
  | lrW (aq rl : Bool) (rd rs1 : Reg)
  /-- `sc.d` (R381). -/
  | scD (aq rl : Bool) (rd rs1 rs2 : Reg)
  /-- `sc.w` (R382). -/
  | scW (aq rl : Bool) (rd rs1 rs2 : Reg)
  -- F extension (46_rv_f.md)
  /-- `fadd.s` (R405). -/
  | faddS (rm : BitVec 3) (rd rs1 rs2 : FReg)
  /-- `fclass.s` (R406). -/
  | fclassS (rd : Reg) (rs1 : FReg)
  /-- `fcvt.l.s` (R407). -/
  | fcvtLS (rm : BitVec 3) (rd : Reg) (rs1 : FReg)
  /-- `fcvt.lu.s` (R408). -/
  | fcvtLuS (rm : BitVec 3) (rd : Reg) (rs1 : FReg)
  /-- `fcvt.s.l` (R409). -/
  | fcvtSL (rm : BitVec 3) (rd : FReg) (rs1 : Reg)
  /-- `fcvt.s.lu` (R410). -/
  | fcvtSLu (rm : BitVec 3) (rd : FReg) (rs1 : Reg)
  /-- `fcvt.s.w` (R411). -/
  | fcvtSW (rm : BitVec 3) (rd : FReg) (rs1 : Reg)
  /-- `fcvt.s.wu` (R412). -/
  | fcvtSWu (rm : BitVec 3) (rd : FReg) (rs1 : Reg)
  /-- `fcvt.w.s` (R413). -/
  | fcvtWS (rm : BitVec 3) (rd : Reg) (rs1 : FReg)
  /-- `fcvt.wu.s` (R414). -/
  | fcvtWuS (rm : BitVec 3) (rd : Reg) (rs1 : FReg)
  /-- `fdiv.s` (R415). -/
  | fdivS (rm : BitVec 3) (rd rs1 rs2 : FReg)
  /-- `feq.s` (R416). -/
  | feqS (rd : Reg) (rs1 rs2 : FReg)
  /-- `fle.s` (R417). -/
  | fleS (rd : Reg) (rs1 rs2 : FReg)
  /-- `flt.s` (R418). -/
  | fltS (rd : Reg) (rs1 rs2 : FReg)
  /-- `flw` (R419). -/
  | flw (rd : FReg) (rs1 : Reg) (offset : BitVec 12)
  /-- `fmadd.s` (R420). -/
  | fmaddS (rm : BitVec 3) (rd rs1 rs2 rs3 : FReg)
  /-- `fmax.s` (R421). -/
  | fmaxS (rd rs1 rs2 : FReg)
  /-- `fmin.s` (R422). -/
  | fminS (rd rs1 rs2 : FReg)
  /-- `fmsub.s` (R423). -/
  | fmsubS (rm : BitVec 3) (rd rs1 rs2 rs3 : FReg)
  /-- `fmul.s` (R424). -/
  | fmulS (rm : BitVec 3) (rd rs1 rs2 : FReg)
  /-- `fmv.w.x` (R425). -/
  | fmvWX (rd : FReg) (rs1 : Reg)
  /-- `fmv.x.w` (R426). -/
  | fmvXW (rd : Reg) (rs1 : FReg)
  /-- `fnmadd.s` (R427). -/
  | fnmaddS (rm : BitVec 3) (rd rs1 rs2 rs3 : FReg)
  /-- `fnmsub.s` (R428). -/
  | fnmsubS (rm : BitVec 3) (rd rs1 rs2 rs3 : FReg)
  /-- `fsgnj.s` (R429). -/
  | fsgnjS (rd rs1 rs2 : FReg)
  /-- `fsgnjn.s` (R430). -/
  | fsgnjnS (rd rs1 rs2 : FReg)
  /-- `fsgnjx.s` (R431). -/
  | fsgnjxS (rd rs1 rs2 : FReg)
  /-- `fsqrt.s` (R432). -/
  | fsqrtS (rm : BitVec 3) (rd rs1 : FReg)
  /-- `fsub.s` (R433). -/
  | fsubS (rm : BitVec 3) (rd rs1 rs2 : FReg)
  /-- `fsw` (R434). -/
  | fsw (rs2 : FReg) (rs1 : Reg) (offset : BitVec 12)
  -- D extension (47_rv_d.md)
  /-- `fadd.d` (R451). -/
  | faddD (rm : BitVec 3) (rd rs1 rs2 : FReg)
  /-- `fclass.d` (R452). -/
  | fclassD (rd : Reg) (rs1 : FReg)
  /-- `fcvt.d.l` (R453). -/
  | fcvtDL (rm : BitVec 3) (rd : FReg) (rs1 : Reg)
  /-- `fcvt.d.lu` (R454). -/
  | fcvtDLu (rm : BitVec 3) (rd : FReg) (rs1 : Reg)
  /-- `fcvt.d.s` (R455). -/
  | fcvtDS (rm : BitVec 3) (rd rs1 : FReg)
  /-- `fcvt.d.w` (R456). -/
  | fcvtDW (rm : BitVec 3) (rd : FReg) (rs1 : Reg)
  /-- `fcvt.d.wu` (R457). -/
  | fcvtDWu (rm : BitVec 3) (rd : FReg) (rs1 : Reg)
  /-- `fcvt.l.d` (R458). -/
  | fcvtLD (rm : BitVec 3) (rd : Reg) (rs1 : FReg)
  /-- `fcvt.lu.d` (R459). -/
  | fcvtLuD (rm : BitVec 3) (rd : Reg) (rs1 : FReg)
  /-- `fcvt.s.d` (R460). -/
  | fcvtSD (rm : BitVec 3) (rd rs1 : FReg)
  /-- `fcvt.w.d` (R461). -/
  | fcvtWD (rm : BitVec 3) (rd : Reg) (rs1 : FReg)
  /-- `fcvt.wu.d` (R462). -/
  | fcvtWuD (rm : BitVec 3) (rd : Reg) (rs1 : FReg)
  /-- `fdiv.d` (R463). -/
  | fdivD (rm : BitVec 3) (rd rs1 rs2 : FReg)
  /-- `feq.d` (R464). -/
  | feqD (rd : Reg) (rs1 rs2 : FReg)
  /-- `fld` (R465). -/
  | fld (rd : FReg) (rs1 : Reg) (offset : BitVec 12)
  /-- `fle.d` (R466). -/
  | fleD (rd : Reg) (rs1 rs2 : FReg)
  /-- `flt.d` (R467). -/
  | fltD (rd : Reg) (rs1 rs2 : FReg)
  /-- `fmadd.d` (R468). -/
  | fmaddD (rm : BitVec 3) (rd rs1 rs2 rs3 : FReg)
  /-- `fmax.d` (R469). -/
  | fmaxD (rd rs1 rs2 : FReg)
  /-- `fmin.d` (R470). -/
  | fminD (rd rs1 rs2 : FReg)
  /-- `fmsub.d` (R471). -/
  | fmsubD (rm : BitVec 3) (rd rs1 rs2 rs3 : FReg)
  /-- `fmul.d` (R472). -/
  | fmulD (rm : BitVec 3) (rd rs1 rs2 : FReg)
  /-- `fmv.d.x` (R473). -/
  | fmvDX (rd : FReg) (rs1 : Reg)
  /-- `fmv.x.d` (R474). -/
  | fmvXD (rd : Reg) (rs1 : FReg)
  /-- `fnmadd.d` (R475). -/
  | fnmaddD (rm : BitVec 3) (rd rs1 rs2 rs3 : FReg)
  /-- `fnmsub.d` (R476). -/
  | fnmsubD (rm : BitVec 3) (rd rs1 rs2 rs3 : FReg)
  /-- `fsd` (R477). -/
  | fsd (rs2 : FReg) (rs1 : Reg) (offset : BitVec 12)
  /-- `fsgnj.d` (R478). -/
  | fsgnjD (rd rs1 rs2 : FReg)
  /-- `fsgnjn.d` (R479). -/
  | fsgnjnD (rd rs1 rs2 : FReg)
  /-- `fsgnjx.d` (R480). -/
  | fsgnjxD (rd rs1 rs2 : FReg)
  /-- `fsqrt.d` (R481). -/
  | fsqrtD (rm : BitVec 3) (rd rs1 : FReg)
  /-- `fsub.d` (R482). -/
  | fsubD (rm : BitVec 3) (rd rs1 rs2 : FReg)
  -- C extension (48_rv_c.md)
  /-- `c.add` (R504). -/
  | cAdd (rd rs2 : Reg)
  /-- `c.addi` (R505). -/
  | cAddi (rd : Reg) (imm : BitVec 6)
  /-- `c.addi16sp` (R506). -/
  | cAddi16sp (imm : BitVec 10)
  /-- `c.addi4spn` (R507). -/
  | cAddi4spn (rd : CReg) (uimm : BitVec 10)
  /-- `c.addiw` (R508). -/
  | cAddiw (rd : Reg) (imm : BitVec 6)
  /-- `c.addw` (R509). -/
  | cAddw (rd rs2 : CReg)
  /-- `c.and` (R510). -/
  | cAnd (rd rs2 : CReg)
  /-- `c.andi` (R511). -/
  | cAndi (rd : CReg) (imm : BitVec 6)
  /-- `c.beqz` (R512). -/
  | cBeqz (rs1 : CReg) (offset : BitVec 9)
  /-- `c.bnez` (R513). -/
  | cBnez (rs1 : CReg) (offset : BitVec 9)
  /-- `c.ebreak` (R514). -/
  | cEbreak
  /-- `c.fld` (R515). -/
  | cFld (rd rs1 : CReg) (uimm : BitVec 8)
  /-- `c.fldsp` (R516). -/
  | cFldsp (rd : FReg) (uimm : BitVec 9)
  /-- `c.flw` (R517). -/
  | cFlw (rd rs1 : CReg) (uimm : BitVec 7)
  /-- `c.flwsp` (R518). -/
  | cFlwsp (rd : FReg) (uimm : BitVec 8)
  /-- `c.fsd` (R519). -/
  | cFsd (rs2 rs1 : CReg) (uimm : BitVec 8)
  /-- `c.fsdsp` (R520). -/
  | cFsdsp (rs2 : FReg) (uimm : BitVec 9)
  /-- `c.fsw` (R521). -/
  | cFsw (rs2 rs1 : CReg) (uimm : BitVec 7)
  /-- `c.fswsp` (R522). -/
  | cFswsp (rs2 : FReg) (uimm : BitVec 8)
  /-- `c.j` (R523). -/
  | cJ (offset : BitVec 12)
  /-- `c.jal` (R524). -/
  | cJal (offset : BitVec 12)
  /-- `c.jalr` (R525). -/
  | cJalr (rs1 : Reg)
  /-- `c.jr` (R526). -/
  | cJr (rs1 : Reg)
  /-- `c.ld` (R527). -/
  | cLd (rd rs1 : CReg) (uimm : BitVec 8)
  /-- `c.ldsp` (R528). -/
  | cLdsp (rd : Reg) (uimm : BitVec 9)
  /-- `c.li` (R529). -/
  | cLi (rd : Reg) (imm : BitVec 6)
  /-- `c.lui` (R530). -/
  | cLui (rd : Reg) (imm : BitVec 6)
  /-- `c.lw` (R531). -/
  | cLw (rd rs1 : CReg) (uimm : BitVec 7)
  /-- `c.lwsp` (R532). -/
  | cLwsp (rd : Reg) (uimm : BitVec 8)
  /-- `c.mv` (R533). -/
  | cMv (rd rs2 : Reg)
  /-- `c.or` (R534). -/
  | cOr (rd rs2 : CReg)
  /-- `c.sd` (R535). -/
  | cSd (rs2 rs1 : CReg) (uimm : BitVec 8)
  /-- `c.sdsp` (R536). -/
  | cSdsp (rs2 : Reg) (uimm : BitVec 9)
  /-- `c.slli` (R537). -/
  | cSlli (rd : Reg) (shamt : BitVec 6)
  /-- `c.srai` (R538). -/
  | cSrai (rd : CReg) (shamt : BitVec 6)
  /-- `c.srli` (R539). -/
  | cSrli (rd : CReg) (shamt : BitVec 6)
  /-- `c.sub` (R540). -/
  | cSub (rd rs2 : CReg)
  /-- `c.subw` (R541). -/
  | cSubw (rd rs2 : CReg)
  /-- `c.sw` (R542). -/
  | cSw (rs2 rs1 : CReg) (uimm : BitVec 7)
  /-- `c.swsp` (R543). -/
  | cSwsp (rs2 : Reg) (uimm : BitVec 8)
  /-- `c.xor` (R544). -/
  | cXor (rd rs2 : CReg)
deriving DecidableEq, Repr

end Sys2Proof
end

