-- ==== Sys2Proof/WellFormed.lean ====
section
/-!
DEFINITION. Sys2Proof/WellFormed.lean: which terms of `Instr` are instructions, whatever XLEN and EXT are.

The checks are those of R161 (the zero low bits of an offset or a scaled immediate), R137 and R139 (even offsets), and
R502 (the register numbers and immediates a compressed encoding may not hold). What an implementation must have for an
instruction (R175) is checked in Machine/Avail.lean.
-/
namespace Sys2Proof

/-- The shape an instruction's operands must have (R137, R139, R161, R502). -/
def Instr.wf : Instr → Bool
  | .add .. | .addi .. | .addiw .. | .addw .. | .and .. | .andi .. | .auipc .. | .lui .. | .or .. | .ori ..
  | .sll .. | .slli .. | .slliw .. | .sllw .. | .slt .. | .slti .. | .sltiu .. | .sltu .. | .sra .. | .srai ..
  | .sraiw .. | .sraw .. | .srl .. | .srli .. | .srliw .. | .srlw .. | .sub .. | .subw .. | .xor .. | .xori ..
  | .jalr .. | .fence .. | .fenceI | .lb .. | .lbu .. | .ld .. | .lh .. | .lhu .. | .lw .. | .lwu .. | .sb ..
  | .sd .. | .sh .. | .sw .. | .csrrc .. | .csrrci .. | .csrrs .. | .csrrsi .. | .csrrw .. | .csrrwi .. | .ebreak
  | .ecall | .mret | .sfenceVma .. | .sret | .wfi | .div .. | .divu .. | .divuw .. | .divw .. | .mul .. | .mulh ..
  | .mulhsu .. | .mulhu .. | .mulw .. | .rem .. | .remu .. | .remuw .. | .remw .. | .amoaddD .. | .amoaddW ..
  | .amoandD .. | .amoandW .. | .amomaxD .. | .amomaxW .. | .amomaxuD .. | .amomaxuW .. | .amominD .. | .amominW ..
  | .amominuD .. | .amominuW .. | .amoorD .. | .amoorW .. | .amoswapD .. | .amoswapW .. | .amoxorD .. | .amoxorW ..
  | .lrD .. | .lrW .. | .scD .. | .scW .. | .faddS .. | .fclassS .. | .fcvtLS .. | .fcvtLuS .. | .fcvtSL ..
  | .fcvtSLu .. | .fcvtSW .. | .fcvtSWu .. | .fcvtWS .. | .fcvtWuS .. | .fdivS .. | .feqS .. | .fleS .. | .fltS ..
  | .flw .. | .fmaddS .. | .fmaxS .. | .fminS .. | .fmsubS .. | .fmulS .. | .fmvWX .. | .fmvXW .. | .fnmaddS ..
  | .fnmsubS .. | .fsgnjS .. | .fsgnjnS .. | .fsgnjxS .. | .fsqrtS .. | .fsubS .. | .fsw .. | .faddD ..
  | .fclassD .. | .fcvtDL .. | .fcvtDLu .. | .fcvtDS .. | .fcvtDW .. | .fcvtDWu .. | .fcvtLD .. | .fcvtLuD ..
  | .fcvtSD .. | .fcvtWD .. | .fcvtWuD .. | .fdivD .. | .feqD .. | .fld .. | .fleD .. | .fltD .. | .fmaddD ..
  | .fmaxD .. | .fminD .. | .fmsubD .. | .fmulD .. | .fmvDX .. | .fmvXD .. | .fnmaddD .. | .fnmsubD .. | .fsd ..
  | .fsgnjD .. | .fsgnjnD .. | .fsgnjxD .. | .fsqrtD .. | .fsubD .. | .cAddi .. | .cAddw .. | .cAnd .. | .cAndi ..
  | .cEbreak | .cLi .. | .cOr .. | .cSlli .. | .cSrai .. | .cSrli .. | .cSub .. | .cSubw .. | .cXor .. => true
  | .beq _ _ offset => offset.extractLsb' 0 1 == 0
  | .bge _ _ offset => offset.extractLsb' 0 1 == 0
  | .bgeu _ _ offset => offset.extractLsb' 0 1 == 0
  | .blt _ _ offset => offset.extractLsb' 0 1 == 0
  | .bltu _ _ offset => offset.extractLsb' 0 1 == 0
  | .bne _ _ offset => offset.extractLsb' 0 1 == 0
  | .jal _ offset => offset.extractLsb' 0 1 == 0
  | .cBeqz _ offset => offset.extractLsb' 0 1 == 0
  | .cBnez _ offset => offset.extractLsb' 0 1 == 0
  | .cJ offset => offset.extractLsb' 0 1 == 0
  | .cJal offset => offset.extractLsb' 0 1 == 0
  | .cAdd rd rs2 => rd != 0 && rs2 != 0
  | .cAddi16sp imm => imm.extractLsb' 0 4 == 0 && imm != 0
  | .cAddi4spn _ uimm => uimm.extractLsb' 0 2 == 0 && uimm != 0
  | .cAddiw rd _ => rd != 0
  | .cFld _ _ uimm => uimm.extractLsb' 0 3 == 0
  | .cFldsp _ uimm => uimm.extractLsb' 0 3 == 0
  | .cFsd _ _ uimm => uimm.extractLsb' 0 3 == 0
  | .cFsdsp _ uimm => uimm.extractLsb' 0 3 == 0
  | .cLd _ _ uimm => uimm.extractLsb' 0 3 == 0
  | .cSd _ _ uimm => uimm.extractLsb' 0 3 == 0
  | .cSdsp _ uimm => uimm.extractLsb' 0 3 == 0
  | .cFlw _ _ uimm => uimm.extractLsb' 0 2 == 0
  | .cFlwsp _ uimm => uimm.extractLsb' 0 2 == 0
  | .cFsw _ _ uimm => uimm.extractLsb' 0 2 == 0
  | .cFswsp _ uimm => uimm.extractLsb' 0 2 == 0
  | .cLw _ _ uimm => uimm.extractLsb' 0 2 == 0
  | .cSw _ _ uimm => uimm.extractLsb' 0 2 == 0
  | .cSwsp _ uimm => uimm.extractLsb' 0 2 == 0
  | .cJalr rs1 => rs1 != 0
  | .cJr rs1 => rs1 != 0
  | .cLdsp rd uimm => uimm.extractLsb' 0 3 == 0 && rd != 0
  | .cLui rd imm => rd != 2 && imm != 0
  | .cLwsp rd uimm => uimm.extractLsb' 0 2 == 0 && rd != 0
  | .cMv _ rs2 => rs2 != 0

end Sys2Proof
end

