-- ==== Sys2Proof/Decode.lean ====
section
/-!
DEFINITION. Sys2Proof/Decode.lean: from bits to an instruction, and back (30_encoding.md).

A 32-bit word is read as six fields, {31:25, 24:20, 19:15, 14:12, 11:7, 6:0} (R122); a 16-bit one as five,
{15:13, 12, 11:7, 6:2, 1:0} (R150). Every layout of R122 to R134 and R151 to R159 is a union of those fields. The
encoder, at the end, is written from the same tables. `decode` is total and says why it refuses.
-/
namespace Sys2Proof

/-- `bits v lo n` is the field of v of n bits from bit lo up (R7: `v[lo+n-1:lo]`). -/
abbrev bits {w : Nat} (v : BitVec w) (lo n : Nat) : BitVec n := v.extractLsb' lo n

/-- The bits of an instruction: one 16-bit parcel or two (R120). -/
inductive Code where
  | half (h : BitVec 16)
  | word (w : BitVec 32)
deriving DecidableEq, Repr

/-- The length in bytes (R25, R503). -/
def Code.len : Code → Nat
  | .half _ => 2
  | .word _ => 4

/-- The bits, zero-extended: what IllegalInstruction records (R642). -/
def Code.value : Code → Word
  | .half h => h.setWidth 64
  | .word w => w.setWidth 64

/-- The bytes in memory order (R121). -/
def Code.bytes : Code → List Byte
  | .half h => [bits h 0 8, bits h 8 8]
  | .word w => [bits w 0 8, bits w 8 8, bits w 16 8, bits w 24 8]

/-- Why a decoder refuses. -/
inductive Reject where
  /-- A 16-bit pattern of no row of R162 for this XLEN (R171). -/
  | noSuchHalfword (h : BitVec 16)
  /-- A 32-bit word of no row of R144 (R171, R173, R174). -/
  | noSuchWord (w : BitVec 32)
  /-- Fewer bytes than the length bits ask for (R120). -/
  | tooShort
deriving DecidableEq, Repr

/-- What a decoder answers. -/
inductive Decoded where
  | instr (i : Instr)
  | reject (r : Reject)
deriving DecidableEq, Repr

/-! ## The 32-bit formats (R122 to R144) -/

/-- A 32-bit word from its six fields (R122). -/
def word32 (f7 : BitVec 7) (rs2 rs1 : BitVec 5) (f3 : BitVec 3) (rd : BitVec 5) (op : BitVec 7) : BitVec 32 :=
  f7 ++ rs2 ++ rs1 ++ f3 ++ rd ++ op

/-- Opcode 0000011, Load (R144). -/
def decodeLoad (f7 : BitVec 7) (rs2 : BitVec 5) (rs1 : BitVec 5) (f3 : BitVec 3) (rd : BitVec 5) : Option Instr :=
  match f3 with
  | 0b000#3 => some (.lb rd rs1 (f7 ++ rs2))
  | 0b100#3 => some (.lbu rd rs1 (f7 ++ rs2))
  | 0b011#3 => some (.ld rd rs1 (f7 ++ rs2))
  | 0b001#3 => some (.lh rd rs1 (f7 ++ rs2))
  | 0b101#3 => some (.lhu rd rs1 (f7 ++ rs2))
  | 0b010#3 => some (.lw rd rs1 (f7 ++ rs2))
  | 0b110#3 => some (.lwu rd rs1 (f7 ++ rs2))
  | _ => none

/-- Opcode 0000111, LoadFp (R144). -/
def decodeLoadFp (f7 : BitVec 7) (rs2 : BitVec 5) (rs1 : BitVec 5) (f3 : BitVec 3) (rd : BitVec 5) : Option Instr :=
  match f3 with
  | 0b010#3 => some (.flw rd rs1 (f7 ++ rs2))
  | 0b011#3 => some (.fld rd rs1 (f7 ++ rs2))
  | _ => none

/-- Opcode 0001111, MiscMem (R144). -/
def decodeMiscMem (f7 : BitVec 7) (rs2 : BitVec 5) (rs1 : BitVec 5) (f3 : BitVec 3) (rd : BitVec 5) : Option Instr :=
  match f3, rs1, rd with
  | 0b000#3, 0#5, 0#5 =>
    match bits f7 3 4 with
    | 0b0000#4 => some (.fence (bits f7 0 3 ++ bits rs2 4 1) (bits rs2 0 4))
    | _ => none
  | 0b001#3, 0#5, 0#5 =>
    match f7, rs2 with
    | 0#7, 0#5 => some .fenceI
    | _, _ => none
  | _, _, _ => none

/-- Opcode 0010011, OpImm (R144). -/
def decodeOpImm (f7 : BitVec 7) (rs2 : BitVec 5) (rs1 : BitVec 5) (f3 : BitVec 3) (rd : BitVec 5) : Option Instr :=
  match f3 with
  | 0b000#3 => some (.addi rd rs1 (f7 ++ rs2))
  | 0b001#3 =>
    match bits f7 1 6 with
    | 0b000000#6 => some (.slli rd rs1 (bits f7 0 1 ++ rs2))
    | _ => none
  | 0b010#3 => some (.slti rd rs1 (f7 ++ rs2))
  | 0b011#3 => some (.sltiu rd rs1 (f7 ++ rs2))
  | 0b100#3 => some (.xori rd rs1 (f7 ++ rs2))
  | 0b101#3 =>
    match bits f7 1 6 with
    | 0b010000#6 => some (.srai rd rs1 (bits f7 0 1 ++ rs2))
    | 0b000000#6 => some (.srli rd rs1 (bits f7 0 1 ++ rs2))
    | _ => none
  | 0b110#3 => some (.ori rd rs1 (f7 ++ rs2))
  | 0b111#3 => some (.andi rd rs1 (f7 ++ rs2))

/-- Opcode 0010111, Auipc (R144). -/
def decodeAuipc (f7 : BitVec 7) (rs2 : BitVec 5) (rs1 : BitVec 5) (f3 : BitVec 3) (rd : BitVec 5) : Option Instr :=
  some (.auipc rd (f7 ++ rs2 ++ rs1 ++ f3))

/-- Opcode 0011011, OpImm32 (R144). -/
def decodeOpImm32 (f7 : BitVec 7) (rs2 : BitVec 5) (rs1 : BitVec 5) (f3 : BitVec 3) (rd : BitVec 5) : Option Instr :=
  match f3 with
  | 0b000#3 => some (.addiw rd rs1 (f7 ++ rs2))
  | 0b001#3 =>
    match f7 with
    | 0b0000000#7 => some (.slliw rd rs1 rs2)
    | _ => none
  | 0b101#3 =>
    match f7 with
    | 0b0100000#7 => some (.sraiw rd rs1 rs2)
    | 0b0000000#7 => some (.srliw rd rs1 rs2)
    | _ => none
  | _ => none

/-- Opcode 0100011, Store (R144). -/
def decodeStore (f7 : BitVec 7) (rs2 : BitVec 5) (rs1 : BitVec 5) (f3 : BitVec 3) (rd : BitVec 5) : Option Instr :=
  match f3 with
  | 0b000#3 => some (.sb rs2 rs1 (f7 ++ rd))
  | 0b011#3 => some (.sd rs2 rs1 (f7 ++ rd))
  | 0b001#3 => some (.sh rs2 rs1 (f7 ++ rd))
  | 0b010#3 => some (.sw rs2 rs1 (f7 ++ rd))
  | _ => none

/-- Opcode 0100111, StoreFp (R144). -/
def decodeStoreFp (f7 : BitVec 7) (rs2 : BitVec 5) (rs1 : BitVec 5) (f3 : BitVec 3) (rd : BitVec 5) : Option Instr :=
  match f3 with
  | 0b010#3 => some (.fsw rs2 rs1 (f7 ++ rd))
  | 0b011#3 => some (.fsd rs2 rs1 (f7 ++ rd))
  | _ => none

/-- Opcode 0101111, Amo (R144). -/
def decodeAmo (f7 : BitVec 7) (rs2 : BitVec 5) (rs1 : BitVec 5) (f3 : BitVec 3) (rd : BitVec 5) : Option Instr :=
  match bits f7 2 5, f3 with
  | 0b00000#5, 0b011#3 => some (.amoaddD (f7.getLsbD 1) (f7.getLsbD 0) rd rs1 rs2)
  | 0b00000#5, 0b010#3 => some (.amoaddW (f7.getLsbD 1) (f7.getLsbD 0) rd rs1 rs2)
  | 0b01100#5, 0b011#3 => some (.amoandD (f7.getLsbD 1) (f7.getLsbD 0) rd rs1 rs2)
  | 0b01100#5, 0b010#3 => some (.amoandW (f7.getLsbD 1) (f7.getLsbD 0) rd rs1 rs2)
  | 0b10100#5, 0b011#3 => some (.amomaxD (f7.getLsbD 1) (f7.getLsbD 0) rd rs1 rs2)
  | 0b10100#5, 0b010#3 => some (.amomaxW (f7.getLsbD 1) (f7.getLsbD 0) rd rs1 rs2)
  | 0b11100#5, 0b011#3 => some (.amomaxuD (f7.getLsbD 1) (f7.getLsbD 0) rd rs1 rs2)
  | 0b11100#5, 0b010#3 => some (.amomaxuW (f7.getLsbD 1) (f7.getLsbD 0) rd rs1 rs2)
  | 0b10000#5, 0b011#3 => some (.amominD (f7.getLsbD 1) (f7.getLsbD 0) rd rs1 rs2)
  | 0b10000#5, 0b010#3 => some (.amominW (f7.getLsbD 1) (f7.getLsbD 0) rd rs1 rs2)
  | 0b11000#5, 0b011#3 => some (.amominuD (f7.getLsbD 1) (f7.getLsbD 0) rd rs1 rs2)
  | 0b11000#5, 0b010#3 => some (.amominuW (f7.getLsbD 1) (f7.getLsbD 0) rd rs1 rs2)
  | 0b01000#5, 0b011#3 => some (.amoorD (f7.getLsbD 1) (f7.getLsbD 0) rd rs1 rs2)
  | 0b01000#5, 0b010#3 => some (.amoorW (f7.getLsbD 1) (f7.getLsbD 0) rd rs1 rs2)
  | 0b00001#5, 0b011#3 => some (.amoswapD (f7.getLsbD 1) (f7.getLsbD 0) rd rs1 rs2)
  | 0b00001#5, 0b010#3 => some (.amoswapW (f7.getLsbD 1) (f7.getLsbD 0) rd rs1 rs2)
  | 0b00100#5, 0b011#3 => some (.amoxorD (f7.getLsbD 1) (f7.getLsbD 0) rd rs1 rs2)
  | 0b00100#5, 0b010#3 => some (.amoxorW (f7.getLsbD 1) (f7.getLsbD 0) rd rs1 rs2)
  | 0b00010#5, 0b011#3 =>
    match rs2 with
    | 0#5 => some (.lrD (f7.getLsbD 1) (f7.getLsbD 0) rd rs1)
    | _ => none
  | 0b00010#5, 0b010#3 =>
    match rs2 with
    | 0#5 => some (.lrW (f7.getLsbD 1) (f7.getLsbD 0) rd rs1)
    | _ => none
  | 0b00011#5, 0b011#3 => some (.scD (f7.getLsbD 1) (f7.getLsbD 0) rd rs1 rs2)
  | 0b00011#5, 0b010#3 => some (.scW (f7.getLsbD 1) (f7.getLsbD 0) rd rs1 rs2)
  | _, _ => none

/-- Opcode 0110011, Op (R144). -/
def decodeOp (f7 : BitVec 7) (rs2 : BitVec 5) (rs1 : BitVec 5) (f3 : BitVec 3) (rd : BitVec 5) : Option Instr :=
  match f7, f3 with
  | 0b0000000#7, 0b000#3 => some (.add rd rs1 rs2)
  | 0b0000000#7, 0b111#3 => some (.and rd rs1 rs2)
  | 0b0000000#7, 0b110#3 => some (.or rd rs1 rs2)
  | 0b0000000#7, 0b001#3 => some (.sll rd rs1 rs2)
  | 0b0000000#7, 0b010#3 => some (.slt rd rs1 rs2)
  | 0b0000000#7, 0b011#3 => some (.sltu rd rs1 rs2)
  | 0b0100000#7, 0b101#3 => some (.sra rd rs1 rs2)
  | 0b0000000#7, 0b101#3 => some (.srl rd rs1 rs2)
  | 0b0100000#7, 0b000#3 => some (.sub rd rs1 rs2)
  | 0b0000000#7, 0b100#3 => some (.xor rd rs1 rs2)
  | 0b0000001#7, 0b100#3 => some (.div rd rs1 rs2)
  | 0b0000001#7, 0b101#3 => some (.divu rd rs1 rs2)
  | 0b0000001#7, 0b000#3 => some (.mul rd rs1 rs2)
  | 0b0000001#7, 0b001#3 => some (.mulh rd rs1 rs2)
  | 0b0000001#7, 0b010#3 => some (.mulhsu rd rs1 rs2)
  | 0b0000001#7, 0b011#3 => some (.mulhu rd rs1 rs2)
  | 0b0000001#7, 0b110#3 => some (.rem rd rs1 rs2)
  | 0b0000001#7, 0b111#3 => some (.remu rd rs1 rs2)
  | _, _ => none

/-- Opcode 0110111, Lui (R144). -/
def decodeLui (f7 : BitVec 7) (rs2 : BitVec 5) (rs1 : BitVec 5) (f3 : BitVec 3) (rd : BitVec 5) : Option Instr :=
  some (.lui rd (f7 ++ rs2 ++ rs1 ++ f3))

/-- Opcode 0111011, Op32 (R144). -/
def decodeOp32 (f7 : BitVec 7) (rs2 : BitVec 5) (rs1 : BitVec 5) (f3 : BitVec 3) (rd : BitVec 5) : Option Instr :=
  match f7, f3 with
  | 0b0000000#7, 0b000#3 => some (.addw rd rs1 rs2)
  | 0b0000000#7, 0b001#3 => some (.sllw rd rs1 rs2)
  | 0b0100000#7, 0b101#3 => some (.sraw rd rs1 rs2)
  | 0b0000000#7, 0b101#3 => some (.srlw rd rs1 rs2)
  | 0b0100000#7, 0b000#3 => some (.subw rd rs1 rs2)
  | 0b0000001#7, 0b101#3 => some (.divuw rd rs1 rs2)
  | 0b0000001#7, 0b100#3 => some (.divw rd rs1 rs2)
  | 0b0000001#7, 0b000#3 => some (.mulw rd rs1 rs2)
  | 0b0000001#7, 0b111#3 => some (.remuw rd rs1 rs2)
  | 0b0000001#7, 0b110#3 => some (.remw rd rs1 rs2)
  | _, _ => none

/-- Opcode 1000011, Madd (R144). -/
def decodeMadd (f7 : BitVec 7) (rs2 : BitVec 5) (rs1 : BitVec 5) (f3 : BitVec 3) (rd : BitVec 5) : Option Instr :=
  match bits f7 0 2 with
  | 0b00#2 => some (.fmaddS f3 rd rs1 rs2 (bits f7 2 5))
  | 0b01#2 => some (.fmaddD f3 rd rs1 rs2 (bits f7 2 5))
  | _ => none

/-- Opcode 1000111, Msub (R144). -/
def decodeMsub (f7 : BitVec 7) (rs2 : BitVec 5) (rs1 : BitVec 5) (f3 : BitVec 3) (rd : BitVec 5) : Option Instr :=
  match bits f7 0 2 with
  | 0b00#2 => some (.fmsubS f3 rd rs1 rs2 (bits f7 2 5))
  | 0b01#2 => some (.fmsubD f3 rd rs1 rs2 (bits f7 2 5))
  | _ => none

/-- Opcode 1001011, Nmsub (R144). -/
def decodeNmsub (f7 : BitVec 7) (rs2 : BitVec 5) (rs1 : BitVec 5) (f3 : BitVec 3) (rd : BitVec 5) : Option Instr :=
  match bits f7 0 2 with
  | 0b00#2 => some (.fnmsubS f3 rd rs1 rs2 (bits f7 2 5))
  | 0b01#2 => some (.fnmsubD f3 rd rs1 rs2 (bits f7 2 5))
  | _ => none

/-- Opcode 1001111, Nmadd (R144). -/
def decodeNmadd (f7 : BitVec 7) (rs2 : BitVec 5) (rs1 : BitVec 5) (f3 : BitVec 3) (rd : BitVec 5) : Option Instr :=
  match bits f7 0 2 with
  | 0b00#2 => some (.fnmaddS f3 rd rs1 rs2 (bits f7 2 5))
  | 0b01#2 => some (.fnmaddD f3 rd rs1 rs2 (bits f7 2 5))
  | _ => none

/-- Opcode 1010011, OpFp (R144). -/
def decodeOpFp (f7 : BitVec 7) (rs2 : BitVec 5) (rs1 : BitVec 5) (f3 : BitVec 3) (rd : BitVec 5) : Option Instr :=
  match f7 with
  | 0b0000000#7 => some (.faddS f3 rd rs1 rs2)
  | 0b1110000#7 =>
    match rs2, f3 with
    | 0b00000#5, 0b001#3 => some (.fclassS rd rs1)
    | 0b00000#5, 0b000#3 => some (.fmvXW rd rs1)
    | _, _ => none
  | 0b1100000#7 =>
    match rs2 with
    | 0b00010#5 => some (.fcvtLS f3 rd rs1)
    | 0b00011#5 => some (.fcvtLuS f3 rd rs1)
    | 0b00000#5 => some (.fcvtWS f3 rd rs1)
    | 0b00001#5 => some (.fcvtWuS f3 rd rs1)
    | _ => none
  | 0b1101000#7 =>
    match rs2 with
    | 0b00010#5 => some (.fcvtSL f3 rd rs1)
    | 0b00011#5 => some (.fcvtSLu f3 rd rs1)
    | 0b00000#5 => some (.fcvtSW f3 rd rs1)
    | 0b00001#5 => some (.fcvtSWu f3 rd rs1)
    | _ => none
  | 0b0001100#7 => some (.fdivS f3 rd rs1 rs2)
  | 0b1010000#7 =>
    match f3 with
    | 0b010#3 => some (.feqS rd rs1 rs2)
    | 0b000#3 => some (.fleS rd rs1 rs2)
    | 0b001#3 => some (.fltS rd rs1 rs2)
    | _ => none
  | 0b0010100#7 =>
    match f3 with
    | 0b001#3 => some (.fmaxS rd rs1 rs2)
    | 0b000#3 => some (.fminS rd rs1 rs2)
    | _ => none
  | 0b0001000#7 => some (.fmulS f3 rd rs1 rs2)
  | 0b1111000#7 =>
    match rs2, f3 with
    | 0b00000#5, 0b000#3 => some (.fmvWX rd rs1)
    | _, _ => none
  | 0b0010000#7 =>
    match f3 with
    | 0b000#3 => some (.fsgnjS rd rs1 rs2)
    | 0b001#3 => some (.fsgnjnS rd rs1 rs2)
    | 0b010#3 => some (.fsgnjxS rd rs1 rs2)
    | _ => none
  | 0b0101100#7 =>
    match rs2 with
    | 0b00000#5 => some (.fsqrtS f3 rd rs1)
    | _ => none
  | 0b0000100#7 => some (.fsubS f3 rd rs1 rs2)
  | 0b0000001#7 => some (.faddD f3 rd rs1 rs2)
  | 0b1110001#7 =>
    match rs2, f3 with
    | 0b00000#5, 0b001#3 => some (.fclassD rd rs1)
    | 0b00000#5, 0b000#3 => some (.fmvXD rd rs1)
    | _, _ => none
  | 0b1101001#7 =>
    match rs2 with
    | 0b00010#5 => some (.fcvtDL f3 rd rs1)
    | 0b00011#5 => some (.fcvtDLu f3 rd rs1)
    | 0b00000#5 => some (.fcvtDW f3 rd rs1)
    | 0b00001#5 => some (.fcvtDWu f3 rd rs1)
    | _ => none
  | 0b0100001#7 =>
    match rs2 with
    | 0b00000#5 => some (.fcvtDS f3 rd rs1)
    | _ => none
  | 0b1100001#7 =>
    match rs2 with
    | 0b00010#5 => some (.fcvtLD f3 rd rs1)
    | 0b00011#5 => some (.fcvtLuD f3 rd rs1)
    | 0b00000#5 => some (.fcvtWD f3 rd rs1)
    | 0b00001#5 => some (.fcvtWuD f3 rd rs1)
    | _ => none
  | 0b0100000#7 =>
    match rs2 with
    | 0b00001#5 => some (.fcvtSD f3 rd rs1)
    | _ => none
  | 0b0001101#7 => some (.fdivD f3 rd rs1 rs2)
  | 0b1010001#7 =>
    match f3 with
    | 0b010#3 => some (.feqD rd rs1 rs2)
    | 0b000#3 => some (.fleD rd rs1 rs2)
    | 0b001#3 => some (.fltD rd rs1 rs2)
    | _ => none
  | 0b0010101#7 =>
    match f3 with
    | 0b001#3 => some (.fmaxD rd rs1 rs2)
    | 0b000#3 => some (.fminD rd rs1 rs2)
    | _ => none
  | 0b0001001#7 => some (.fmulD f3 rd rs1 rs2)
  | 0b1111001#7 =>
    match rs2, f3 with
    | 0b00000#5, 0b000#3 => some (.fmvDX rd rs1)
    | _, _ => none
  | 0b0010001#7 =>
    match f3 with
    | 0b000#3 => some (.fsgnjD rd rs1 rs2)
    | 0b001#3 => some (.fsgnjnD rd rs1 rs2)
    | 0b010#3 => some (.fsgnjxD rd rs1 rs2)
    | _ => none
  | 0b0101101#7 =>
    match rs2 with
    | 0b00000#5 => some (.fsqrtD f3 rd rs1)
    | _ => none
  | 0b0000101#7 => some (.fsubD f3 rd rs1 rs2)
  | _ => none

/-- Opcode 1100011, Branch (R144). -/
def decodeBranch (f7 : BitVec 7) (rs2 : BitVec 5) (rs1 : BitVec 5) (f3 : BitVec 3) (rd : BitVec 5) : Option Instr :=
  match f3 with
  | 0b000#3 => some (.beq rs1 rs2 (bits f7 6 1 ++ bits rd 0 1 ++ bits f7 0 6 ++ bits rd 1 4 ++ 0#1))
  | 0b101#3 => some (.bge rs1 rs2 (bits f7 6 1 ++ bits rd 0 1 ++ bits f7 0 6 ++ bits rd 1 4 ++ 0#1))
  | 0b111#3 => some (.bgeu rs1 rs2 (bits f7 6 1 ++ bits rd 0 1 ++ bits f7 0 6 ++ bits rd 1 4 ++ 0#1))
  | 0b100#3 => some (.blt rs1 rs2 (bits f7 6 1 ++ bits rd 0 1 ++ bits f7 0 6 ++ bits rd 1 4 ++ 0#1))
  | 0b110#3 => some (.bltu rs1 rs2 (bits f7 6 1 ++ bits rd 0 1 ++ bits f7 0 6 ++ bits rd 1 4 ++ 0#1))
  | 0b001#3 => some (.bne rs1 rs2 (bits f7 6 1 ++ bits rd 0 1 ++ bits f7 0 6 ++ bits rd 1 4 ++ 0#1))
  | _ => none

/-- Opcode 1100111, Jalr (R144). -/
def decodeJalr (f7 : BitVec 7) (rs2 : BitVec 5) (rs1 : BitVec 5) (f3 : BitVec 3) (rd : BitVec 5) : Option Instr :=
  match f3 with
  | 0b000#3 => some (.jalr rd rs1 (f7 ++ rs2))
  | _ => none

/-- Opcode 1101111, Jal (R144). -/
def decodeJal (f7 : BitVec 7) (rs2 : BitVec 5) (rs1 : BitVec 5) (f3 : BitVec 3) (rd : BitVec 5) : Option Instr :=
  some (.jal rd (bits f7 6 1 ++ rs1 ++ f3 ++ bits rs2 0 1 ++ bits f7 0 6 ++ bits rs2 1 4 ++ 0#1))

/-- Opcode 1110011, System (R144). -/
def decodeSystem (f7 : BitVec 7) (rs2 : BitVec 5) (rs1 : BitVec 5) (f3 : BitVec 3) (rd : BitVec 5) : Option Instr :=
  match f3 with
  | 0b000#3 =>
    match f7, rs2, rs1, rd with
    | 0b0000000#7, 0b00001#5, 0#5, 0#5 => some .ebreak
    | 0b0000000#7, 0b00000#5, 0#5, 0#5 => some .ecall
    | 0b0011000#7, 0b00010#5, 0#5, 0#5 => some .mret
    | 0b0001000#7, 0b00010#5, 0#5, 0#5 => some .sret
    | 0b0001000#7, 0b00101#5, 0#5, 0#5 => some .wfi
    | 0b0001001#7, _, _, 0#5 => some (.sfenceVma rs1 rs2)
    | _, _, _, _ => none
  | 0b011#3 => some (.csrrc rd (f7 ++ rs2) rs1)
  | 0b111#3 => some (.csrrci rd (f7 ++ rs2) rs1)
  | 0b010#3 => some (.csrrs rd (f7 ++ rs2) rs1)
  | 0b110#3 => some (.csrrsi rd (f7 ++ rs2) rs1)
  | 0b001#3 => some (.csrrw rd (f7 ++ rs2) rs1)
  | 0b101#3 => some (.csrrwi rd (f7 ++ rs2) rs1)
  | _ => none

/-- The instruction of six fields: the row of R144 that has them (R176 step 2). -/
def decodeFields (f7 : BitVec 7) (rs2 rs1 : BitVec 5) (f3 : BitVec 3) (rd : BitVec 5) (op : BitVec 7) : Option Instr :=
  match op with
  | 0b0000011#7 => decodeLoad f7 rs2 rs1 f3 rd
  | 0b0000111#7 => decodeLoadFp f7 rs2 rs1 f3 rd
  | 0b0001111#7 => decodeMiscMem f7 rs2 rs1 f3 rd
  | 0b0010011#7 => decodeOpImm f7 rs2 rs1 f3 rd
  | 0b0010111#7 => decodeAuipc f7 rs2 rs1 f3 rd
  | 0b0011011#7 => decodeOpImm32 f7 rs2 rs1 f3 rd
  | 0b0100011#7 => decodeStore f7 rs2 rs1 f3 rd
  | 0b0100111#7 => decodeStoreFp f7 rs2 rs1 f3 rd
  | 0b0101111#7 => decodeAmo f7 rs2 rs1 f3 rd
  | 0b0110011#7 => decodeOp f7 rs2 rs1 f3 rd
  | 0b0110111#7 => decodeLui f7 rs2 rs1 f3 rd
  | 0b0111011#7 => decodeOp32 f7 rs2 rs1 f3 rd
  | 0b1000011#7 => decodeMadd f7 rs2 rs1 f3 rd
  | 0b1000111#7 => decodeMsub f7 rs2 rs1 f3 rd
  | 0b1001011#7 => decodeNmsub f7 rs2 rs1 f3 rd
  | 0b1001111#7 => decodeNmadd f7 rs2 rs1 f3 rd
  | 0b1010011#7 => decodeOpFp f7 rs2 rs1 f3 rd
  | 0b1100011#7 => decodeBranch f7 rs2 rs1 f3 rd
  | 0b1100111#7 => decodeJalr f7 rs2 rs1 f3 rd
  | 0b1101111#7 => decodeJal f7 rs2 rs1 f3 rd
  | 0b1110011#7 => decodeSystem f7 rs2 rs1 f3 rd
  | _ => none

/-- The instruction of a 32-bit word, if it is a row of R144. -/
def decode32 (w : BitVec 32) : Option Instr :=
  decodeFields (bits w 25 7) (bits w 20 5) (bits w 15 5) (bits w 12 3) (bits w 7 5) (bits w 0 7)

/-! ## The 16-bit formats (R150 to R163) -/

/-- A 16-bit parcel from its five fields (R150). -/
def half16 (f3 : BitVec 3) (b : BitVec 1) (a l : BitVec 5) (q : BitVec 2) : BitVec 16 :=
  f3 ++ b ++ a ++ l ++ q

/-- `some i` when the condition R162 writes after its `;` holds. -/
def when (c : Bool) (i : Instr) : Option Instr := if c then some i else none

/-- Quadrant 00 (R162). -/
def decodeQ0 (xl : Xlen) (f3 : BitVec 3) (b : BitVec 1) (a l : BitVec 5) : Option Instr :=
  match f3 with
  | 0b000#3 =>
    let uimm : BitVec 10 := (bits a 0 4 ++ b ++ bits a 4 1 ++ bits l 3 1 ++ bits l 4 1 ++ 0#2)
    when (uimm != 0) (.cAddi4spn (bits l 0 3) uimm)
  | 0b001#3 => some (.cFld (bits l 0 3) (bits a 0 3) (bits l 3 2 ++ b ++ bits a 3 2 ++ 0#3))
  | 0b010#3 => some (.cLw (bits l 0 3) (bits a 0 3) (bits l 3 1 ++ b ++ bits a 3 2 ++ bits l 4 1 ++ 0#2))
  | 0b011#3 =>
    match xl with
    | .rv32 => some (.cFlw (bits l 0 3) (bits a 0 3) (bits l 3 1 ++ b ++ bits a 3 2 ++ bits l 4 1 ++ 0#2))
    | .rv64 => some (.cLd (bits l 0 3) (bits a 0 3) (bits l 3 2 ++ b ++ bits a 3 2 ++ 0#3))
  | 0b101#3 => some (.cFsd (bits l 0 3) (bits a 0 3) (bits l 3 2 ++ b ++ bits a 3 2 ++ 0#3))
  | 0b110#3 => some (.cSw (bits l 0 3) (bits a 0 3) (bits l 3 1 ++ b ++ bits a 3 2 ++ bits l 4 1 ++ 0#2))
  | 0b111#3 =>
    match xl with
    | .rv32 => some (.cFsw (bits l 0 3) (bits a 0 3) (bits l 3 1 ++ b ++ bits a 3 2 ++ bits l 4 1 ++ 0#2))
    | .rv64 => some (.cSd (bits l 0 3) (bits a 0 3) (bits l 3 2 ++ b ++ bits a 3 2 ++ 0#3))
  | _ => none

/-- Quadrant 01, function 100: the operation is in bits 11:10, then in bits 12 and 6:5 (R162). -/
def decodeQ1Alu (b : BitVec 1) (a l : BitVec 5) : Option Instr :=
  match bits a 3 2 with
  | 0b00#2 => some (.cSrli (bits a 0 3) (b ++ l))
  | 0b01#2 => some (.cSrai (bits a 0 3) (b ++ l))
  | 0b10#2 => some (.cAndi (bits a 0 3) (b ++ l))
  | _ =>
    match b, bits l 3 2 with
    | 0#1, 0b00#2 => some (.cSub (bits a 0 3) (bits l 0 3))
    | 0#1, 0b01#2 => some (.cXor (bits a 0 3) (bits l 0 3))
    | 0#1, 0b10#2 => some (.cOr (bits a 0 3) (bits l 0 3))
    | 0#1, 0b11#2 => some (.cAnd (bits a 0 3) (bits l 0 3))
    | 1#1, 0b00#2 => some (.cSubw (bits a 0 3) (bits l 0 3))
    | 1#1, 0b01#2 => some (.cAddw (bits a 0 3) (bits l 0 3))
    | _, _ => none

/-- Quadrant 01 (R162). -/
def decodeQ1 (xl : Xlen) (f3 : BitVec 3) (b : BitVec 1) (a l : BitVec 5) : Option Instr :=
  match f3 with
  | 0b000#3 => some (.cAddi a (b ++ l))
  | 0b001#3 =>
    match xl with
    | .rv32 => some (.cJal (b ++ bits a 1 1 ++ bits a 2 2 ++ bits l 4 1 ++ bits a 0 1 ++ bits l 0 1 ++ bits a 4 1 ++ bits l 1 3 ++ 0#1))
    | .rv64 => when (a != 0) (.cAddiw a (b ++ l))
  | 0b010#3 => some (.cLi a (b ++ l))
  | 0b011#3 =>
    if a = 2#5 then
      let imm : BitVec 10 := (b ++ bits l 1 2 ++ bits l 3 1 ++ bits l 0 1 ++ bits l 4 1 ++ 0#4)
      when (imm != 0) (.cAddi16sp imm)
    else when (b ++ l != 0) (.cLui a (b ++ l))
  | 0b100#3 => decodeQ1Alu b a l
  | 0b101#3 => some (.cJ (b ++ bits a 1 1 ++ bits a 2 2 ++ bits l 4 1 ++ bits a 0 1 ++ bits l 0 1 ++ bits a 4 1 ++ bits l 1 3 ++ 0#1))
  | 0b110#3 => some (.cBeqz (bits a 0 3) (b ++ bits l 3 2 ++ bits l 0 1 ++ bits a 3 2 ++ bits l 1 2 ++ 0#1))
  | _ => some (.cBnez (bits a 0 3) (b ++ bits l 3 2 ++ bits l 0 1 ++ bits a 3 2 ++ bits l 1 2 ++ 0#1))

/-- Quadrant 10, function 100, in the order of R176. -/
def decodeQ2Reg (b : BitVec 1) (a l : BitVec 5) : Option Instr :=
  match b with
  | 0#1 => if l = 0 then when (a != 0) (.cJr a) else some (.cMv a l)
  | _ =>
    if l = 0 then (if a = 0 then some .cEbreak else some (.cJalr a))
    else when (a != 0) (.cAdd a l)

/-- Quadrant 10 (R162). -/
def decodeQ2 (xl : Xlen) (f3 : BitVec 3) (b : BitVec 1) (a l : BitVec 5) : Option Instr :=
  match f3 with
  | 0b000#3 => some (.cSlli a (b ++ l))
  | 0b001#3 => some (.cFldsp a (bits l 0 3 ++ b ++ bits l 3 2 ++ 0#3))
  | 0b010#3 => when (a != 0) (.cLwsp a (bits l 0 2 ++ b ++ bits l 2 3 ++ 0#2))
  | 0b011#3 =>
    match xl with
    | .rv32 => some (.cFlwsp a (bits l 0 2 ++ b ++ bits l 2 3 ++ 0#2))
    | .rv64 => when (a != 0) (.cLdsp a (bits l 0 3 ++ b ++ bits l 3 2 ++ 0#3))
  | 0b100#3 => decodeQ2Reg b a l
  | 0b101#3 => some (.cFsdsp l (bits a 0 3 ++ b ++ bits a 3 2 ++ 0#3))
  | 0b110#3 => some (.cSwsp l (bits a 0 2 ++ b ++ bits a 2 3 ++ 0#2))
  | _ =>
    match xl with
    | .rv32 => some (.cFswsp l (bits a 0 2 ++ b ++ bits a 2 3 ++ 0#2))
    | .rv64 => some (.cSdsp l (bits a 0 3 ++ b ++ bits a 3 2 ++ 0#3))

/-- The instruction of five fields: the row of R162 that has them for this XLEN (R163, R176 step 1). -/
def decodeParts (xl : Xlen) (f3 : BitVec 3) (b : BitVec 1) (a l : BitVec 5) (q : BitVec 2) : Option Instr :=
  match q with
  | 0b00#2 => decodeQ0 xl f3 b a l
  | 0b01#2 => decodeQ1 xl f3 b a l
  | 0b10#2 => decodeQ2 xl f3 b a l
  | _ => none

/-- The instruction of a 16-bit parcel, if it is a row of R162 for this XLEN. -/
def decode16 (xl : Xlen) (h : BitVec 16) : Option Instr :=
  decodeParts xl (bits h 13 3) (bits h 12 1) (bits h 7 5) (bits h 2 5) (bits h 0 2)

/-! ## Decoding bits and bytes -/

/-- The instruction of some code, or why there is none (R176). -/
def decode (xl : Xlen) : Code → Decoded
  | .half h =>
    match decode16 xl h with
    | some i => .instr i
    | none => .reject (.noSuchHalfword h)
  | .word w =>
    match decode32 w with
    | some i => .instr i
    | none => .reject (.noSuchWord w)

/-- The code at the front of some bytes and the bytes after it (R120, R121): two bytes, or four when bits 1:0 are 11. -/
def Code.ofBytes : List Byte → Option (Code × List Byte)
  | b0 :: b1 :: rest =>
    if bits b0 0 2 = 3#2 then
      match rest with
      | b2 :: b3 :: rest' => some (.word (b3 ++ b2 ++ b1 ++ b0), rest')
      | _ => none
    else some (.half (b1 ++ b0), rest)
  | _ => none

/-- The instruction at the front of some bytes. -/
def decodeBytes (xl : Xlen) (bs : List Byte) : Decoded :=
  match Code.ofBytes bs with
  | some (c, _) => decode xl c
  | none => .reject .tooShort

/-- The bytes of an instruction whose bits are the number w: n bytes, little-endian (R121). -/
def bytesOfNat : Nat → Nat → List Byte
  | 0, _ => []
  | n + 1, w => BitVec.ofNat 8 w :: bytesOfNat n (w / 256)

/-- The instruction of a row of the opcode table, whose bits are w (the bits above nbits are 0). The five words of R163
that are one instruction for XLEN = 64 and another for XLEN = 32 read as the former (log 26). -/
def decodeTableWord (nbits w : Nat) : Option Instr :=
  let bs := bytesOfNat 4 (w % 2 ^ nbits)
  match decodeBytes .rv64 bs with
  | .instr i => some i
  | .reject _ =>
    match decodeBytes .rv32 bs with
    | .instr i => some i
    | .reject _ => none

/-! ## Encoding -/

/-- The bits of an instruction (the encodings of R144 and R162). -/
def encode : Instr → Code
  | .add rd rs1 rs2 => .word (word32 0b0000000#7 rs2 rs1 0b000#3 rd 0b0110011#7)
  | .addi rd rs1 imm => .word (word32 (bits imm 5 7) (bits imm 0 5) rs1 0b000#3 rd 0b0010011#7)
  | .addiw rd rs1 imm => .word (word32 (bits imm 5 7) (bits imm 0 5) rs1 0b000#3 rd 0b0011011#7)
  | .addw rd rs1 rs2 => .word (word32 0b0000000#7 rs2 rs1 0b000#3 rd 0b0111011#7)
  | .and rd rs1 rs2 => .word (word32 0b0000000#7 rs2 rs1 0b111#3 rd 0b0110011#7)
  | .andi rd rs1 imm => .word (word32 (bits imm 5 7) (bits imm 0 5) rs1 0b111#3 rd 0b0010011#7)
  | .auipc rd imm => .word (word32 (bits imm 13 7) (bits imm 8 5) (bits imm 3 5) (bits imm 0 3) rd 0b0010111#7)
  | .lui rd imm => .word (word32 (bits imm 13 7) (bits imm 8 5) (bits imm 3 5) (bits imm 0 3) rd 0b0110111#7)
  | .or rd rs1 rs2 => .word (word32 0b0000000#7 rs2 rs1 0b110#3 rd 0b0110011#7)
  | .ori rd rs1 imm => .word (word32 (bits imm 5 7) (bits imm 0 5) rs1 0b110#3 rd 0b0010011#7)
  | .sll rd rs1 rs2 => .word (word32 0b0000000#7 rs2 rs1 0b001#3 rd 0b0110011#7)
  | .slli rd rs1 shamt => .word (word32 (0b000000#6 ++ bits shamt 5 1) (bits shamt 0 5) rs1 0b001#3 rd 0b0010011#7)
  | .slliw rd rs1 shamt => .word (word32 0b0000000#7 shamt rs1 0b001#3 rd 0b0011011#7)
  | .sllw rd rs1 rs2 => .word (word32 0b0000000#7 rs2 rs1 0b001#3 rd 0b0111011#7)
  | .slt rd rs1 rs2 => .word (word32 0b0000000#7 rs2 rs1 0b010#3 rd 0b0110011#7)
  | .slti rd rs1 imm => .word (word32 (bits imm 5 7) (bits imm 0 5) rs1 0b010#3 rd 0b0010011#7)
  | .sltiu rd rs1 imm => .word (word32 (bits imm 5 7) (bits imm 0 5) rs1 0b011#3 rd 0b0010011#7)
  | .sltu rd rs1 rs2 => .word (word32 0b0000000#7 rs2 rs1 0b011#3 rd 0b0110011#7)
  | .sra rd rs1 rs2 => .word (word32 0b0100000#7 rs2 rs1 0b101#3 rd 0b0110011#7)
  | .srai rd rs1 shamt => .word (word32 (0b010000#6 ++ bits shamt 5 1) (bits shamt 0 5) rs1 0b101#3 rd 0b0010011#7)
  | .sraiw rd rs1 shamt => .word (word32 0b0100000#7 shamt rs1 0b101#3 rd 0b0011011#7)
  | .sraw rd rs1 rs2 => .word (word32 0b0100000#7 rs2 rs1 0b101#3 rd 0b0111011#7)
  | .srl rd rs1 rs2 => .word (word32 0b0000000#7 rs2 rs1 0b101#3 rd 0b0110011#7)
  | .srli rd rs1 shamt => .word (word32 (0b000000#6 ++ bits shamt 5 1) (bits shamt 0 5) rs1 0b101#3 rd 0b0010011#7)
  | .srliw rd rs1 shamt => .word (word32 0b0000000#7 shamt rs1 0b101#3 rd 0b0011011#7)
  | .srlw rd rs1 rs2 => .word (word32 0b0000000#7 rs2 rs1 0b101#3 rd 0b0111011#7)
  | .sub rd rs1 rs2 => .word (word32 0b0100000#7 rs2 rs1 0b000#3 rd 0b0110011#7)
  | .subw rd rs1 rs2 => .word (word32 0b0100000#7 rs2 rs1 0b000#3 rd 0b0111011#7)
  | .xor rd rs1 rs2 => .word (word32 0b0000000#7 rs2 rs1 0b100#3 rd 0b0110011#7)
  | .xori rd rs1 imm => .word (word32 (bits imm 5 7) (bits imm 0 5) rs1 0b100#3 rd 0b0010011#7)
  | .beq rs1 rs2 offset => .word (word32 (bits offset 12 1 ++ bits offset 5 6) rs2 rs1 0b000#3 (bits offset 1 4 ++ bits offset 11 1) 0b1100011#7)
  | .bge rs1 rs2 offset => .word (word32 (bits offset 12 1 ++ bits offset 5 6) rs2 rs1 0b101#3 (bits offset 1 4 ++ bits offset 11 1) 0b1100011#7)
  | .bgeu rs1 rs2 offset => .word (word32 (bits offset 12 1 ++ bits offset 5 6) rs2 rs1 0b111#3 (bits offset 1 4 ++ bits offset 11 1) 0b1100011#7)
  | .blt rs1 rs2 offset => .word (word32 (bits offset 12 1 ++ bits offset 5 6) rs2 rs1 0b100#3 (bits offset 1 4 ++ bits offset 11 1) 0b1100011#7)
  | .bltu rs1 rs2 offset => .word (word32 (bits offset 12 1 ++ bits offset 5 6) rs2 rs1 0b110#3 (bits offset 1 4 ++ bits offset 11 1) 0b1100011#7)
  | .bne rs1 rs2 offset => .word (word32 (bits offset 12 1 ++ bits offset 5 6) rs2 rs1 0b001#3 (bits offset 1 4 ++ bits offset 11 1) 0b1100011#7)
  | .jal rd offset => .word (word32 (bits offset 20 1 ++ bits offset 5 6) (bits offset 1 4 ++ bits offset 11 1) (bits offset 15 5) (bits offset 12 3) rd 0b1101111#7)
  | .jalr rd rs1 offset => .word (word32 (bits offset 5 7) (bits offset 0 5) rs1 0b000#3 rd 0b1100111#7)
  | .fence pred succ => .word (word32 (0b0000#4 ++ bits pred 1 3) (bits pred 0 1 ++ succ) 0#5 0b000#3 0#5 0b0001111#7)
  | .fenceI => .word (word32 0b0000000#7 0b00000#5 0#5 0b001#3 0#5 0b0001111#7)
  | .lb rd rs1 offset => .word (word32 (bits offset 5 7) (bits offset 0 5) rs1 0b000#3 rd 0b0000011#7)
  | .lbu rd rs1 offset => .word (word32 (bits offset 5 7) (bits offset 0 5) rs1 0b100#3 rd 0b0000011#7)
  | .ld rd rs1 offset => .word (word32 (bits offset 5 7) (bits offset 0 5) rs1 0b011#3 rd 0b0000011#7)
  | .lh rd rs1 offset => .word (word32 (bits offset 5 7) (bits offset 0 5) rs1 0b001#3 rd 0b0000011#7)
  | .lhu rd rs1 offset => .word (word32 (bits offset 5 7) (bits offset 0 5) rs1 0b101#3 rd 0b0000011#7)
  | .lw rd rs1 offset => .word (word32 (bits offset 5 7) (bits offset 0 5) rs1 0b010#3 rd 0b0000011#7)
  | .lwu rd rs1 offset => .word (word32 (bits offset 5 7) (bits offset 0 5) rs1 0b110#3 rd 0b0000011#7)
  | .sb rs2 rs1 offset => .word (word32 (bits offset 5 7) rs2 rs1 0b000#3 (bits offset 0 5) 0b0100011#7)
  | .sd rs2 rs1 offset => .word (word32 (bits offset 5 7) rs2 rs1 0b011#3 (bits offset 0 5) 0b0100011#7)
  | .sh rs2 rs1 offset => .word (word32 (bits offset 5 7) rs2 rs1 0b001#3 (bits offset 0 5) 0b0100011#7)
  | .sw rs2 rs1 offset => .word (word32 (bits offset 5 7) rs2 rs1 0b010#3 (bits offset 0 5) 0b0100011#7)
  | .csrrc rd csr rs1 => .word (word32 (bits csr 5 7) (bits csr 0 5) rs1 0b011#3 rd 0b1110011#7)
  | .csrrci rd csr zimm => .word (word32 (bits csr 5 7) (bits csr 0 5) zimm 0b111#3 rd 0b1110011#7)
  | .csrrs rd csr rs1 => .word (word32 (bits csr 5 7) (bits csr 0 5) rs1 0b010#3 rd 0b1110011#7)
  | .csrrsi rd csr zimm => .word (word32 (bits csr 5 7) (bits csr 0 5) zimm 0b110#3 rd 0b1110011#7)
  | .csrrw rd csr rs1 => .word (word32 (bits csr 5 7) (bits csr 0 5) rs1 0b001#3 rd 0b1110011#7)
  | .csrrwi rd csr zimm => .word (word32 (bits csr 5 7) (bits csr 0 5) zimm 0b101#3 rd 0b1110011#7)
  | .ebreak => .word (word32 0b0000000#7 0b00001#5 0#5 0b000#3 0#5 0b1110011#7)
  | .ecall => .word (word32 0b0000000#7 0b00000#5 0#5 0b000#3 0#5 0b1110011#7)
  | .mret => .word (word32 0b0011000#7 0b00010#5 0#5 0b000#3 0#5 0b1110011#7)
  | .sfenceVma rs1 rs2 => .word (word32 0b0001001#7 rs2 rs1 0#3 0#5 0b1110011#7)
  | .sret => .word (word32 0b0001000#7 0b00010#5 0#5 0b000#3 0#5 0b1110011#7)
  | .wfi => .word (word32 0b0001000#7 0b00101#5 0#5 0b000#3 0#5 0b1110011#7)
  | .div rd rs1 rs2 => .word (word32 0b0000001#7 rs2 rs1 0b100#3 rd 0b0110011#7)
  | .divu rd rs1 rs2 => .word (word32 0b0000001#7 rs2 rs1 0b101#3 rd 0b0110011#7)
  | .divuw rd rs1 rs2 => .word (word32 0b0000001#7 rs2 rs1 0b101#3 rd 0b0111011#7)
  | .divw rd rs1 rs2 => .word (word32 0b0000001#7 rs2 rs1 0b100#3 rd 0b0111011#7)
  | .mul rd rs1 rs2 => .word (word32 0b0000001#7 rs2 rs1 0b000#3 rd 0b0110011#7)
  | .mulh rd rs1 rs2 => .word (word32 0b0000001#7 rs2 rs1 0b001#3 rd 0b0110011#7)
  | .mulhsu rd rs1 rs2 => .word (word32 0b0000001#7 rs2 rs1 0b010#3 rd 0b0110011#7)
  | .mulhu rd rs1 rs2 => .word (word32 0b0000001#7 rs2 rs1 0b011#3 rd 0b0110011#7)
  | .mulw rd rs1 rs2 => .word (word32 0b0000001#7 rs2 rs1 0b000#3 rd 0b0111011#7)
  | .rem rd rs1 rs2 => .word (word32 0b0000001#7 rs2 rs1 0b110#3 rd 0b0110011#7)
  | .remu rd rs1 rs2 => .word (word32 0b0000001#7 rs2 rs1 0b111#3 rd 0b0110011#7)
  | .remuw rd rs1 rs2 => .word (word32 0b0000001#7 rs2 rs1 0b111#3 rd 0b0111011#7)
  | .remw rd rs1 rs2 => .word (word32 0b0000001#7 rs2 rs1 0b110#3 rd 0b0111011#7)
  | .amoaddD aq rl rd rs1 rs2 => .word (word32 (0b00000#5 ++ BitVec.ofBool aq ++ BitVec.ofBool rl) rs2 rs1 0b011#3 rd 0b0101111#7)
  | .amoaddW aq rl rd rs1 rs2 => .word (word32 (0b00000#5 ++ BitVec.ofBool aq ++ BitVec.ofBool rl) rs2 rs1 0b010#3 rd 0b0101111#7)
  | .amoandD aq rl rd rs1 rs2 => .word (word32 (0b01100#5 ++ BitVec.ofBool aq ++ BitVec.ofBool rl) rs2 rs1 0b011#3 rd 0b0101111#7)
  | .amoandW aq rl rd rs1 rs2 => .word (word32 (0b01100#5 ++ BitVec.ofBool aq ++ BitVec.ofBool rl) rs2 rs1 0b010#3 rd 0b0101111#7)
  | .amomaxD aq rl rd rs1 rs2 => .word (word32 (0b10100#5 ++ BitVec.ofBool aq ++ BitVec.ofBool rl) rs2 rs1 0b011#3 rd 0b0101111#7)
  | .amomaxW aq rl rd rs1 rs2 => .word (word32 (0b10100#5 ++ BitVec.ofBool aq ++ BitVec.ofBool rl) rs2 rs1 0b010#3 rd 0b0101111#7)
  | .amomaxuD aq rl rd rs1 rs2 => .word (word32 (0b11100#5 ++ BitVec.ofBool aq ++ BitVec.ofBool rl) rs2 rs1 0b011#3 rd 0b0101111#7)
  | .amomaxuW aq rl rd rs1 rs2 => .word (word32 (0b11100#5 ++ BitVec.ofBool aq ++ BitVec.ofBool rl) rs2 rs1 0b010#3 rd 0b0101111#7)
  | .amominD aq rl rd rs1 rs2 => .word (word32 (0b10000#5 ++ BitVec.ofBool aq ++ BitVec.ofBool rl) rs2 rs1 0b011#3 rd 0b0101111#7)
  | .amominW aq rl rd rs1 rs2 => .word (word32 (0b10000#5 ++ BitVec.ofBool aq ++ BitVec.ofBool rl) rs2 rs1 0b010#3 rd 0b0101111#7)
  | .amominuD aq rl rd rs1 rs2 => .word (word32 (0b11000#5 ++ BitVec.ofBool aq ++ BitVec.ofBool rl) rs2 rs1 0b011#3 rd 0b0101111#7)
  | .amominuW aq rl rd rs1 rs2 => .word (word32 (0b11000#5 ++ BitVec.ofBool aq ++ BitVec.ofBool rl) rs2 rs1 0b010#3 rd 0b0101111#7)
  | .amoorD aq rl rd rs1 rs2 => .word (word32 (0b01000#5 ++ BitVec.ofBool aq ++ BitVec.ofBool rl) rs2 rs1 0b011#3 rd 0b0101111#7)
  | .amoorW aq rl rd rs1 rs2 => .word (word32 (0b01000#5 ++ BitVec.ofBool aq ++ BitVec.ofBool rl) rs2 rs1 0b010#3 rd 0b0101111#7)
  | .amoswapD aq rl rd rs1 rs2 => .word (word32 (0b00001#5 ++ BitVec.ofBool aq ++ BitVec.ofBool rl) rs2 rs1 0b011#3 rd 0b0101111#7)
  | .amoswapW aq rl rd rs1 rs2 => .word (word32 (0b00001#5 ++ BitVec.ofBool aq ++ BitVec.ofBool rl) rs2 rs1 0b010#3 rd 0b0101111#7)
  | .amoxorD aq rl rd rs1 rs2 => .word (word32 (0b00100#5 ++ BitVec.ofBool aq ++ BitVec.ofBool rl) rs2 rs1 0b011#3 rd 0b0101111#7)
  | .amoxorW aq rl rd rs1 rs2 => .word (word32 (0b00100#5 ++ BitVec.ofBool aq ++ BitVec.ofBool rl) rs2 rs1 0b010#3 rd 0b0101111#7)
  | .lrD aq rl rd rs1 => .word (word32 (0b00010#5 ++ BitVec.ofBool aq ++ BitVec.ofBool rl) 0#5 rs1 0b011#3 rd 0b0101111#7)
  | .lrW aq rl rd rs1 => .word (word32 (0b00010#5 ++ BitVec.ofBool aq ++ BitVec.ofBool rl) 0#5 rs1 0b010#3 rd 0b0101111#7)
  | .scD aq rl rd rs1 rs2 => .word (word32 (0b00011#5 ++ BitVec.ofBool aq ++ BitVec.ofBool rl) rs2 rs1 0b011#3 rd 0b0101111#7)
  | .scW aq rl rd rs1 rs2 => .word (word32 (0b00011#5 ++ BitVec.ofBool aq ++ BitVec.ofBool rl) rs2 rs1 0b010#3 rd 0b0101111#7)
  | .faddS rm rd rs1 rs2 => .word (word32 0b0000000#7 rs2 rs1 rm rd 0b1010011#7)
  | .fclassS rd rs1 => .word (word32 0b1110000#7 0b00000#5 rs1 0b001#3 rd 0b1010011#7)
  | .fcvtLS rm rd rs1 => .word (word32 0b1100000#7 0b00010#5 rs1 rm rd 0b1010011#7)
  | .fcvtLuS rm rd rs1 => .word (word32 0b1100000#7 0b00011#5 rs1 rm rd 0b1010011#7)
  | .fcvtSL rm rd rs1 => .word (word32 0b1101000#7 0b00010#5 rs1 rm rd 0b1010011#7)
  | .fcvtSLu rm rd rs1 => .word (word32 0b1101000#7 0b00011#5 rs1 rm rd 0b1010011#7)
  | .fcvtSW rm rd rs1 => .word (word32 0b1101000#7 0b00000#5 rs1 rm rd 0b1010011#7)
  | .fcvtSWu rm rd rs1 => .word (word32 0b1101000#7 0b00001#5 rs1 rm rd 0b1010011#7)
  | .fcvtWS rm rd rs1 => .word (word32 0b1100000#7 0b00000#5 rs1 rm rd 0b1010011#7)
  | .fcvtWuS rm rd rs1 => .word (word32 0b1100000#7 0b00001#5 rs1 rm rd 0b1010011#7)
  | .fdivS rm rd rs1 rs2 => .word (word32 0b0001100#7 rs2 rs1 rm rd 0b1010011#7)
  | .feqS rd rs1 rs2 => .word (word32 0b1010000#7 rs2 rs1 0b010#3 rd 0b1010011#7)
  | .fleS rd rs1 rs2 => .word (word32 0b1010000#7 rs2 rs1 0b000#3 rd 0b1010011#7)
  | .fltS rd rs1 rs2 => .word (word32 0b1010000#7 rs2 rs1 0b001#3 rd 0b1010011#7)
  | .flw rd rs1 offset => .word (word32 (bits offset 5 7) (bits offset 0 5) rs1 0b010#3 rd 0b0000111#7)
  | .fmaddS rm rd rs1 rs2 rs3 => .word (word32 (rs3 ++ 0b00#2) rs2 rs1 rm rd 0b1000011#7)
  | .fmaxS rd rs1 rs2 => .word (word32 0b0010100#7 rs2 rs1 0b001#3 rd 0b1010011#7)
  | .fminS rd rs1 rs2 => .word (word32 0b0010100#7 rs2 rs1 0b000#3 rd 0b1010011#7)
  | .fmsubS rm rd rs1 rs2 rs3 => .word (word32 (rs3 ++ 0b00#2) rs2 rs1 rm rd 0b1000111#7)
  | .fmulS rm rd rs1 rs2 => .word (word32 0b0001000#7 rs2 rs1 rm rd 0b1010011#7)
  | .fmvWX rd rs1 => .word (word32 0b1111000#7 0b00000#5 rs1 0b000#3 rd 0b1010011#7)
  | .fmvXW rd rs1 => .word (word32 0b1110000#7 0b00000#5 rs1 0b000#3 rd 0b1010011#7)
  | .fnmaddS rm rd rs1 rs2 rs3 => .word (word32 (rs3 ++ 0b00#2) rs2 rs1 rm rd 0b1001111#7)
  | .fnmsubS rm rd rs1 rs2 rs3 => .word (word32 (rs3 ++ 0b00#2) rs2 rs1 rm rd 0b1001011#7)
  | .fsgnjS rd rs1 rs2 => .word (word32 0b0010000#7 rs2 rs1 0b000#3 rd 0b1010011#7)
  | .fsgnjnS rd rs1 rs2 => .word (word32 0b0010000#7 rs2 rs1 0b001#3 rd 0b1010011#7)
  | .fsgnjxS rd rs1 rs2 => .word (word32 0b0010000#7 rs2 rs1 0b010#3 rd 0b1010011#7)
  | .fsqrtS rm rd rs1 => .word (word32 0b0101100#7 0b00000#5 rs1 rm rd 0b1010011#7)
  | .fsubS rm rd rs1 rs2 => .word (word32 0b0000100#7 rs2 rs1 rm rd 0b1010011#7)
  | .fsw rs2 rs1 offset => .word (word32 (bits offset 5 7) rs2 rs1 0b010#3 (bits offset 0 5) 0b0100111#7)
  | .faddD rm rd rs1 rs2 => .word (word32 0b0000001#7 rs2 rs1 rm rd 0b1010011#7)
  | .fclassD rd rs1 => .word (word32 0b1110001#7 0b00000#5 rs1 0b001#3 rd 0b1010011#7)
  | .fcvtDL rm rd rs1 => .word (word32 0b1101001#7 0b00010#5 rs1 rm rd 0b1010011#7)
  | .fcvtDLu rm rd rs1 => .word (word32 0b1101001#7 0b00011#5 rs1 rm rd 0b1010011#7)
  | .fcvtDS rm rd rs1 => .word (word32 0b0100001#7 0b00000#5 rs1 rm rd 0b1010011#7)
  | .fcvtDW rm rd rs1 => .word (word32 0b1101001#7 0b00000#5 rs1 rm rd 0b1010011#7)
  | .fcvtDWu rm rd rs1 => .word (word32 0b1101001#7 0b00001#5 rs1 rm rd 0b1010011#7)
  | .fcvtLD rm rd rs1 => .word (word32 0b1100001#7 0b00010#5 rs1 rm rd 0b1010011#7)
  | .fcvtLuD rm rd rs1 => .word (word32 0b1100001#7 0b00011#5 rs1 rm rd 0b1010011#7)
  | .fcvtSD rm rd rs1 => .word (word32 0b0100000#7 0b00001#5 rs1 rm rd 0b1010011#7)
  | .fcvtWD rm rd rs1 => .word (word32 0b1100001#7 0b00000#5 rs1 rm rd 0b1010011#7)
  | .fcvtWuD rm rd rs1 => .word (word32 0b1100001#7 0b00001#5 rs1 rm rd 0b1010011#7)
  | .fdivD rm rd rs1 rs2 => .word (word32 0b0001101#7 rs2 rs1 rm rd 0b1010011#7)
  | .feqD rd rs1 rs2 => .word (word32 0b1010001#7 rs2 rs1 0b010#3 rd 0b1010011#7)
  | .fld rd rs1 offset => .word (word32 (bits offset 5 7) (bits offset 0 5) rs1 0b011#3 rd 0b0000111#7)
  | .fleD rd rs1 rs2 => .word (word32 0b1010001#7 rs2 rs1 0b000#3 rd 0b1010011#7)
  | .fltD rd rs1 rs2 => .word (word32 0b1010001#7 rs2 rs1 0b001#3 rd 0b1010011#7)
  | .fmaddD rm rd rs1 rs2 rs3 => .word (word32 (rs3 ++ 0b01#2) rs2 rs1 rm rd 0b1000011#7)
  | .fmaxD rd rs1 rs2 => .word (word32 0b0010101#7 rs2 rs1 0b001#3 rd 0b1010011#7)
  | .fminD rd rs1 rs2 => .word (word32 0b0010101#7 rs2 rs1 0b000#3 rd 0b1010011#7)
  | .fmsubD rm rd rs1 rs2 rs3 => .word (word32 (rs3 ++ 0b01#2) rs2 rs1 rm rd 0b1000111#7)
  | .fmulD rm rd rs1 rs2 => .word (word32 0b0001001#7 rs2 rs1 rm rd 0b1010011#7)
  | .fmvDX rd rs1 => .word (word32 0b1111001#7 0b00000#5 rs1 0b000#3 rd 0b1010011#7)
  | .fmvXD rd rs1 => .word (word32 0b1110001#7 0b00000#5 rs1 0b000#3 rd 0b1010011#7)
  | .fnmaddD rm rd rs1 rs2 rs3 => .word (word32 (rs3 ++ 0b01#2) rs2 rs1 rm rd 0b1001111#7)
  | .fnmsubD rm rd rs1 rs2 rs3 => .word (word32 (rs3 ++ 0b01#2) rs2 rs1 rm rd 0b1001011#7)
  | .fsd rs2 rs1 offset => .word (word32 (bits offset 5 7) rs2 rs1 0b011#3 (bits offset 0 5) 0b0100111#7)
  | .fsgnjD rd rs1 rs2 => .word (word32 0b0010001#7 rs2 rs1 0b000#3 rd 0b1010011#7)
  | .fsgnjnD rd rs1 rs2 => .word (word32 0b0010001#7 rs2 rs1 0b001#3 rd 0b1010011#7)
  | .fsgnjxD rd rs1 rs2 => .word (word32 0b0010001#7 rs2 rs1 0b010#3 rd 0b1010011#7)
  | .fsqrtD rm rd rs1 => .word (word32 0b0101101#7 0b00000#5 rs1 rm rd 0b1010011#7)
  | .fsubD rm rd rs1 rs2 => .word (word32 0b0000101#7 rs2 rs1 rm rd 0b1010011#7)
  | .cAdd rd rs2 => .half (half16 0b100#3 0b1#1 rd rs2 0b10#2)
  | .cAddi rd imm => .half (half16 0b000#3 (bits imm 5 1) rd (bits imm 0 5) 0b01#2)
  | .cAddi16sp imm => .half (half16 0b011#3 (bits imm 9 1) 0b00010#5 (bits imm 4 1 ++ bits imm 6 1 ++ bits imm 7 2 ++ bits imm 5 1) 0b01#2)
  | .cAddi4spn rd uimm => .half (half16 0b000#3 (bits uimm 5 1) (bits uimm 4 1 ++ bits uimm 6 4) (bits uimm 2 1 ++ bits uimm 3 1 ++ rd) 0b00#2)
  | .cAddiw rd imm => .half (half16 0b001#3 (bits imm 5 1) rd (bits imm 0 5) 0b01#2)
  | .cAddw rd rs2 => .half (half16 0b100#3 0b1#1 (0b11#2 ++ rd) (0b01#2 ++ rs2) 0b01#2)
  | .cAnd rd rs2 => .half (half16 0b100#3 0b0#1 (0b11#2 ++ rd) (0b11#2 ++ rs2) 0b01#2)
  | .cAndi rd imm => .half (half16 0b100#3 (bits imm 5 1) (0b10#2 ++ rd) (bits imm 0 5) 0b01#2)
  | .cBeqz rs1 offset => .half (half16 0b110#3 (bits offset 8 1) (bits offset 3 2 ++ rs1) (bits offset 6 2 ++ bits offset 1 2 ++ bits offset 5 1) 0b01#2)
  | .cBnez rs1 offset => .half (half16 0b111#3 (bits offset 8 1) (bits offset 3 2 ++ rs1) (bits offset 6 2 ++ bits offset 1 2 ++ bits offset 5 1) 0b01#2)
  | .cEbreak => .half (half16 0b100#3 0b1#1 0b00000#5 0b00000#5 0b10#2)
  | .cFld rd rs1 uimm => .half (half16 0b001#3 (bits uimm 5 1) (bits uimm 3 2 ++ rs1) (bits uimm 6 2 ++ rd) 0b00#2)
  | .cFldsp rd uimm => .half (half16 0b001#3 (bits uimm 5 1) rd (bits uimm 3 2 ++ bits uimm 6 3) 0b10#2)
  | .cFlw rd rs1 uimm => .half (half16 0b011#3 (bits uimm 5 1) (bits uimm 3 2 ++ rs1) (bits uimm 2 1 ++ bits uimm 6 1 ++ rd) 0b00#2)
  | .cFlwsp rd uimm => .half (half16 0b011#3 (bits uimm 5 1) rd (bits uimm 2 3 ++ bits uimm 6 2) 0b10#2)
  | .cFsd rs2 rs1 uimm => .half (half16 0b101#3 (bits uimm 5 1) (bits uimm 3 2 ++ rs1) (bits uimm 6 2 ++ rs2) 0b00#2)
  | .cFsdsp rs2 uimm => .half (half16 0b101#3 (bits uimm 5 1) (bits uimm 3 2 ++ bits uimm 6 3) rs2 0b10#2)
  | .cFsw rs2 rs1 uimm => .half (half16 0b111#3 (bits uimm 5 1) (bits uimm 3 2 ++ rs1) (bits uimm 2 1 ++ bits uimm 6 1 ++ rs2) 0b00#2)
  | .cFswsp rs2 uimm => .half (half16 0b111#3 (bits uimm 5 1) (bits uimm 2 3 ++ bits uimm 6 2) rs2 0b10#2)
  | .cJ offset => .half (half16 0b101#3 (bits offset 11 1) (bits offset 4 1 ++ bits offset 8 2 ++ bits offset 10 1 ++ bits offset 6 1) (bits offset 7 1 ++ bits offset 1 3 ++ bits offset 5 1) 0b01#2)
  | .cJal offset => .half (half16 0b001#3 (bits offset 11 1) (bits offset 4 1 ++ bits offset 8 2 ++ bits offset 10 1 ++ bits offset 6 1) (bits offset 7 1 ++ bits offset 1 3 ++ bits offset 5 1) 0b01#2)
  | .cJalr rs1 => .half (half16 0b100#3 0b1#1 rs1 0b00000#5 0b10#2)
  | .cJr rs1 => .half (half16 0b100#3 0b0#1 rs1 0b00000#5 0b10#2)
  | .cLd rd rs1 uimm => .half (half16 0b011#3 (bits uimm 5 1) (bits uimm 3 2 ++ rs1) (bits uimm 6 2 ++ rd) 0b00#2)
  | .cLdsp rd uimm => .half (half16 0b011#3 (bits uimm 5 1) rd (bits uimm 3 2 ++ bits uimm 6 3) 0b10#2)
  | .cLi rd imm => .half (half16 0b010#3 (bits imm 5 1) rd (bits imm 0 5) 0b01#2)
  | .cLui rd imm => .half (half16 0b011#3 (bits imm 5 1) rd (bits imm 0 5) 0b01#2)
  | .cLw rd rs1 uimm => .half (half16 0b010#3 (bits uimm 5 1) (bits uimm 3 2 ++ rs1) (bits uimm 2 1 ++ bits uimm 6 1 ++ rd) 0b00#2)
  | .cLwsp rd uimm => .half (half16 0b010#3 (bits uimm 5 1) rd (bits uimm 2 3 ++ bits uimm 6 2) 0b10#2)
  | .cMv rd rs2 => .half (half16 0b100#3 0b0#1 rd rs2 0b10#2)
  | .cOr rd rs2 => .half (half16 0b100#3 0b0#1 (0b11#2 ++ rd) (0b10#2 ++ rs2) 0b01#2)
  | .cSd rs2 rs1 uimm => .half (half16 0b111#3 (bits uimm 5 1) (bits uimm 3 2 ++ rs1) (bits uimm 6 2 ++ rs2) 0b00#2)
  | .cSdsp rs2 uimm => .half (half16 0b111#3 (bits uimm 5 1) (bits uimm 3 2 ++ bits uimm 6 3) rs2 0b10#2)
  | .cSlli rd shamt => .half (half16 0b000#3 (bits shamt 5 1) rd (bits shamt 0 5) 0b10#2)
  | .cSrai rd shamt => .half (half16 0b100#3 (bits shamt 5 1) (0b01#2 ++ rd) (bits shamt 0 5) 0b01#2)
  | .cSrli rd shamt => .half (half16 0b100#3 (bits shamt 5 1) (0b00#2 ++ rd) (bits shamt 0 5) 0b01#2)
  | .cSub rd rs2 => .half (half16 0b100#3 0b0#1 (0b11#2 ++ rd) (0b00#2 ++ rs2) 0b01#2)
  | .cSubw rd rs2 => .half (half16 0b100#3 0b1#1 (0b11#2 ++ rd) (0b00#2 ++ rs2) 0b01#2)
  | .cSw rs2 rs1 uimm => .half (half16 0b110#3 (bits uimm 5 1) (bits uimm 3 2 ++ rs1) (bits uimm 2 1 ++ bits uimm 6 1 ++ rs2) 0b00#2)
  | .cSwsp rs2 uimm => .half (half16 0b110#3 (bits uimm 5 1) (bits uimm 2 3 ++ bits uimm 6 2) rs2 0b10#2)
  | .cXor rd rs2 => .half (half16 0b100#3 0b0#1 (0b11#2 ++ rd) (0b01#2 ++ rs2) 0b01#2)

/-- The length of an instruction in bytes (R25, R503). -/
def Instr.len (i : Instr) : Nat := (encode i).len

/-! ## What an instruction needs (R175) -/

/-- The `extension` column of the opcode table. -/
inductive Ext where
  | base | m | a | f | d | c | cf | cd | privM | privS
deriving DecidableEq, Repr

/-- The extensions an instruction needs (R175). -/
def Instr.ext : Instr → Ext
  | .add .. | .addi .. | .addiw .. | .addw .. | .and .. | .andi .. | .auipc .. | .lui .. | .or .. | .ori ..
  | .sll .. | .slli .. | .slliw .. | .sllw .. | .slt .. | .slti .. | .sltiu .. | .sltu .. | .sra .. | .srai ..
  | .sraiw .. | .sraw .. | .srl .. | .srli .. | .srliw .. | .srlw .. | .sub .. | .subw .. | .xor .. | .xori ..
  | .beq .. | .bge .. | .bgeu .. | .blt .. | .bltu .. | .bne .. | .jal .. | .jalr .. | .fence .. | .fenceI | .lb ..
  | .lbu .. | .ld .. | .lh .. | .lhu .. | .lw .. | .lwu .. | .sb .. | .sd .. | .sh .. | .sw .. | .csrrc ..
  | .csrrci .. | .csrrs .. | .csrrsi .. | .csrrw .. | .csrrwi .. | .ebreak | .ecall => .base
  | .div .. | .divu .. | .divuw .. | .divw .. | .mul .. | .mulh .. | .mulhsu .. | .mulhu .. | .mulw .. | .rem ..
  | .remu .. | .remuw .. | .remw .. => .m
  | .amoaddD .. | .amoaddW .. | .amoandD .. | .amoandW .. | .amomaxD .. | .amomaxW .. | .amomaxuD .. | .amomaxuW ..
  | .amominD .. | .amominW .. | .amominuD .. | .amominuW .. | .amoorD .. | .amoorW .. | .amoswapD .. | .amoswapW ..
  | .amoxorD .. | .amoxorW .. | .lrD .. | .lrW .. | .scD .. | .scW .. => .a
  | .faddS .. | .fclassS .. | .fcvtLS .. | .fcvtLuS .. | .fcvtSL .. | .fcvtSLu .. | .fcvtSW .. | .fcvtSWu ..
  | .fcvtWS .. | .fcvtWuS .. | .fdivS .. | .feqS .. | .fleS .. | .fltS .. | .flw .. | .fmaddS .. | .fmaxS ..
  | .fminS .. | .fmsubS .. | .fmulS .. | .fmvWX .. | .fmvXW .. | .fnmaddS .. | .fnmsubS .. | .fsgnjS ..
  | .fsgnjnS .. | .fsgnjxS .. | .fsqrtS .. | .fsubS .. | .fsw .. => .f
  | .faddD .. | .fclassD .. | .fcvtDL .. | .fcvtDLu .. | .fcvtDS .. | .fcvtDW .. | .fcvtDWu .. | .fcvtLD ..
  | .fcvtLuD .. | .fcvtSD .. | .fcvtWD .. | .fcvtWuD .. | .fdivD .. | .feqD .. | .fld .. | .fleD .. | .fltD ..
  | .fmaddD .. | .fmaxD .. | .fminD .. | .fmsubD .. | .fmulD .. | .fmvDX .. | .fmvXD .. | .fnmaddD .. | .fnmsubD ..
  | .fsd .. | .fsgnjD .. | .fsgnjnD .. | .fsgnjxD .. | .fsqrtD .. | .fsubD .. => .d
  | .cAdd .. | .cAddi .. | .cAddi16sp .. | .cAddi4spn .. | .cAddiw .. | .cAddw .. | .cAnd .. | .cAndi ..
  | .cBeqz .. | .cBnez .. | .cEbreak | .cJ .. | .cJal .. | .cJalr .. | .cJr .. | .cLd .. | .cLdsp .. | .cLi ..
  | .cLui .. | .cLw .. | .cLwsp .. | .cMv .. | .cOr .. | .cSd .. | .cSdsp .. | .cSlli .. | .cSrai .. | .cSrli ..
  | .cSub .. | .cSubw .. | .cSw .. | .cSwsp .. | .cXor .. => .c
  | .cFlw .. | .cFlwsp .. | .cFsw .. | .cFswsp .. => .cf
  | .cFld .. | .cFldsp .. | .cFsd .. | .cFsdsp .. => .cd
  | .mret | .wfi => .privM
  | .sfenceVma .. | .sret => .privS

/-- The XLEN an instruction is confined to, if it is (R175, the XLEN columns of R144 and R162). -/
def Instr.xlenOnly : Instr → Option Xlen
  | .addiw .. | .addw .. | .slliw .. | .sllw .. | .sraiw .. | .sraw .. | .srliw .. | .srlw .. | .subw .. | .ld ..
  | .lwu .. | .sd .. | .divuw .. | .divw .. | .mulw .. | .remuw .. | .remw .. | .amoaddD .. | .amoandD ..
  | .amomaxD .. | .amomaxuD .. | .amominD .. | .amominuD .. | .amoorD .. | .amoswapD .. | .amoxorD .. | .lrD ..
  | .scD .. | .fcvtLS .. | .fcvtLuS .. | .fcvtSL .. | .fcvtSLu .. | .fcvtDL .. | .fcvtDLu .. | .fcvtLD ..
  | .fcvtLuD .. | .fmvDX .. | .fmvXD .. | .cAddiw .. | .cAddw .. | .cLd .. | .cLdsp .. | .cSd .. | .cSdsp ..
  | .cSubw .. => some .rv64
  | .cFlw .. | .cFlwsp .. | .cFsw .. | .cFswsp .. | .cJal .. => some .rv32
  | .add .. | .addi .. | .and .. | .andi .. | .auipc .. | .lui .. | .or .. | .ori .. | .sll .. | .slli .. | .slt ..
  | .slti .. | .sltiu .. | .sltu .. | .sra .. | .srai .. | .srl .. | .srli .. | .sub .. | .xor .. | .xori ..
  | .beq .. | .bge .. | .bgeu .. | .blt .. | .bltu .. | .bne .. | .jal .. | .jalr .. | .fence .. | .fenceI | .lb ..
  | .lbu .. | .lh .. | .lhu .. | .lw .. | .sb .. | .sh .. | .sw .. | .csrrc .. | .csrrci .. | .csrrs ..
  | .csrrsi .. | .csrrw .. | .csrrwi .. | .ebreak | .ecall | .mret | .sfenceVma .. | .sret | .wfi | .div ..
  | .divu .. | .mul .. | .mulh .. | .mulhsu .. | .mulhu .. | .rem .. | .remu .. | .amoaddW .. | .amoandW ..
  | .amomaxW .. | .amomaxuW .. | .amominW .. | .amominuW .. | .amoorW .. | .amoswapW .. | .amoxorW .. | .lrW ..
  | .scW .. | .faddS .. | .fclassS .. | .fcvtSW .. | .fcvtSWu .. | .fcvtWS .. | .fcvtWuS .. | .fdivS .. | .feqS ..
  | .fleS .. | .fltS .. | .flw .. | .fmaddS .. | .fmaxS .. | .fminS .. | .fmsubS .. | .fmulS .. | .fmvWX ..
  | .fmvXW .. | .fnmaddS .. | .fnmsubS .. | .fsgnjS .. | .fsgnjnS .. | .fsgnjxS .. | .fsqrtS .. | .fsubS ..
  | .fsw .. | .faddD .. | .fclassD .. | .fcvtDS .. | .fcvtDW .. | .fcvtDWu .. | .fcvtSD .. | .fcvtWD ..
  | .fcvtWuD .. | .fdivD .. | .feqD .. | .fld .. | .fleD .. | .fltD .. | .fmaddD .. | .fmaxD .. | .fminD ..
  | .fmsubD .. | .fmulD .. | .fnmaddD .. | .fnmsubD .. | .fsd .. | .fsgnjD .. | .fsgnjnD .. | .fsgnjxD ..
  | .fsqrtD .. | .fsubD .. | .cAdd .. | .cAddi .. | .cAddi16sp .. | .cAddi4spn .. | .cAnd .. | .cAndi ..
  | .cBeqz .. | .cBnez .. | .cEbreak | .cFld .. | .cFldsp .. | .cFsd .. | .cFsdsp .. | .cJ .. | .cJalr .. | .cJr ..
  | .cLi .. | .cLui .. | .cLw .. | .cLwsp .. | .cMv .. | .cOr .. | .cSlli .. | .cSrai .. | .cSrli .. | .cSub ..
  | .cSw .. | .cSwsp .. | .cXor .. => none

/-- The 6-bit shift amount whose bit 5 must be 0 when XLEN = 32 (R140, R162); 0 for an instruction without one. -/
def Instr.shamt : Instr → BitVec 6
  | .slli _ _ n => n
  | .srai _ _ n => n
  | .srli _ _ n => n
  | .cSlli _ n => n
  | .cSrai _ n => n
  | .cSrli _ n => n
  | .add .. | .addi .. | .addiw .. | .addw .. | .and .. | .andi .. | .auipc .. | .lui .. | .or .. | .ori ..
  | .sll .. | .slliw .. | .sllw .. | .slt .. | .slti .. | .sltiu .. | .sltu .. | .sra .. | .sraiw .. | .sraw ..
  | .srl .. | .srliw .. | .srlw .. | .sub .. | .subw .. | .xor .. | .xori .. | .beq .. | .bge .. | .bgeu ..
  | .blt .. | .bltu .. | .bne .. | .jal .. | .jalr .. | .fence .. | .fenceI | .lb .. | .lbu .. | .ld .. | .lh ..
  | .lhu .. | .lw .. | .lwu .. | .sb .. | .sd .. | .sh .. | .sw .. | .csrrc .. | .csrrci .. | .csrrs ..
  | .csrrsi .. | .csrrw .. | .csrrwi .. | .ebreak | .ecall | .mret | .sfenceVma .. | .sret | .wfi | .div ..
  | .divu .. | .divuw .. | .divw .. | .mul .. | .mulh .. | .mulhsu .. | .mulhu .. | .mulw .. | .rem .. | .remu ..
  | .remuw .. | .remw .. | .amoaddD .. | .amoaddW .. | .amoandD .. | .amoandW .. | .amomaxD .. | .amomaxW ..
  | .amomaxuD .. | .amomaxuW .. | .amominD .. | .amominW .. | .amominuD .. | .amominuW .. | .amoorD .. | .amoorW ..
  | .amoswapD .. | .amoswapW .. | .amoxorD .. | .amoxorW .. | .lrD .. | .lrW .. | .scD .. | .scW .. | .faddS ..
  | .fclassS .. | .fcvtLS .. | .fcvtLuS .. | .fcvtSL .. | .fcvtSLu .. | .fcvtSW .. | .fcvtSWu .. | .fcvtWS ..
  | .fcvtWuS .. | .fdivS .. | .feqS .. | .fleS .. | .fltS .. | .flw .. | .fmaddS .. | .fmaxS .. | .fminS ..
  | .fmsubS .. | .fmulS .. | .fmvWX .. | .fmvXW .. | .fnmaddS .. | .fnmsubS .. | .fsgnjS .. | .fsgnjnS ..
  | .fsgnjxS .. | .fsqrtS .. | .fsubS .. | .fsw .. | .faddD .. | .fclassD .. | .fcvtDL .. | .fcvtDLu ..
  | .fcvtDS .. | .fcvtDW .. | .fcvtDWu .. | .fcvtLD .. | .fcvtLuD .. | .fcvtSD .. | .fcvtWD .. | .fcvtWuD ..
  | .fdivD .. | .feqD .. | .fld .. | .fleD .. | .fltD .. | .fmaddD .. | .fmaxD .. | .fminD .. | .fmsubD ..
  | .fmulD .. | .fmvDX .. | .fmvXD .. | .fnmaddD .. | .fnmsubD .. | .fsd .. | .fsgnjD .. | .fsgnjnD ..
  | .fsgnjxD .. | .fsqrtD .. | .fsubD .. | .cAdd .. | .cAddi .. | .cAddi16sp .. | .cAddi4spn .. | .cAddiw ..
  | .cAddw .. | .cAnd .. | .cAndi .. | .cBeqz .. | .cBnez .. | .cEbreak | .cFld .. | .cFldsp .. | .cFlw ..
  | .cFlwsp .. | .cFsd .. | .cFsdsp .. | .cFsw .. | .cFswsp .. | .cJ .. | .cJal .. | .cJalr .. | .cJr .. | .cLd ..
  | .cLdsp .. | .cLi .. | .cLui .. | .cLw .. | .cLwsp .. | .cMv .. | .cOr .. | .cSd .. | .cSdsp .. | .cSub ..
  | .cSubw .. | .cSw .. | .cSwsp .. | .cXor .. => 0

end Sys2Proof
end

