-- ==== Sys2Proof/Config.lean ====
section
/-!
DEFINITION. Sys2Proof/Config.lean: the parameters of an implementation (R6) and the free values.

The parameters are plain data of type `Params`; the state carries them (log 1), no step changes them, and a statement
about every state is a statement about every choice of them. The free values are constants without a body: nothing can
be proved of what they are.
-/
namespace Sys2Proof

/-- MISALIGNED_DATA (R6 f, R75): what a misaligned load or store does. -/
inductive Misaligned where
  | trap
  | split
deriving DecidableEq, Repr

/-- TrapModel (R6 l, R669). -/
inductive TrapModel where
  | full
  | terminal
deriving DecidableEq, Repr

/-- What lies at the addresses of a region (R80). An address in no region is vacant. -/
inductive RegionKind where
  | memory
  | device
deriving DecidableEq, Repr

/-- One region of MemMap (R6 g, R80): its addresses, its kind, and the permissions R, W and X. -/
structure Region where
  base : Nat
  size : Nat
  kind : RegionKind
  r : Bool
  w : Bool
  x : Bool
deriving DecidableEq, Repr

/-- How a freedom the spec leaves is used: `pinned` is the deterministic reading the spec itself calls correct,
`free` draws from a value nothing constrains. -/
inductive Choice where
  | pinned
  | free
deriving DecidableEq, Repr

/-- The implementation parameters of R6 (log 1), and which of the spec's freedoms are left free. -/
structure Params where
  /-- XLEN (R6 a). -/
  xlen : Xlen
  /-- M, A, F, D, C in EXT (R6 b). -/
  extM : Bool
  extA : Bool
  extF : Bool
  extD : Bool
  extC : Bool
  /-- HAS_S and HAS_U (R6 d). -/
  hasS : Bool
  hasU : Bool
  /-- MISALIGNED_DATA (R6 f). -/
  misaligned : Misaligned
  /-- MemMap (R6 g); of two regions that hold an address the first counts (log 33). -/
  memMap : List Region
  /-- RESET_PC (R6 h). -/
  resetPc : Word
  /-- HARTID (R6 i). -/
  hartId : Word
  /-- SC_FAIL_CODE (R6 j). -/
  scFailCode : Word
  /-- MSI, MTI, MEI in IRQ (R6 k, R648). -/
  irqMSI : Bool
  irqMTI : Bool
  irqMEI : Bool
  /-- TrapModel (R6 l). -/
  trapModel : TrapModel
  /-- Spurious failure of a store-conditional (R91 e): `pinned` never fails spuriously (log 11). -/
  scChoice : Choice
  /-- A fetch of bytes stored since the last fence.i (R93): `pinned` always sees the newest bytes (log 12). -/
  fetchChoice : Choice
  /-- CYCLES (R37): `pinned` is 1 a step (log 13). -/
  cycleChoice : Choice
  /-- The levels of the interrupt lines (R648): `pinned` keeps the levels in the state (log 14). -/
  lineChoice : Choice
deriving DecidableEq, Repr

/-- Free value: does the store-conditional at this draw fail although its reservation matches (R91 e)? -/
opaque Config.scSpurious : Nat → Bool

/-- Free value: does the fetch at this draw see the old bytes of its first parcel (R93)? -/
opaque Config.staleLow : Nat → Bool

/-- Free value: does the fetch at this draw see the old bytes of its second parcel (R93)? -/
opaque Config.staleHigh : Nat → Bool

/-- Free value: how many cycles beyond one the step at this draw takes (R37). -/
opaque Config.extraCycles : Nat → Nat

/-- Free values: the levels of the lines MSI, MTI and MEI at this draw (R648). -/
opaque Config.lineMSI : Nat → Bool
opaque Config.lineMTI : Nat → Bool
opaque Config.lineMEI : Nat → Bool

end Sys2Proof
end

