-- ==== Sys2Proof/Machine/State.lean ====
section
/-!
DEFINITION. Sys2Proof/Machine/State.lean: everything the spec gives the machine, as plain data, and its reset state.

R20 lists the state of a hart, R44 what is not state. A register that is only a view of another (sstatus, sie, sip, the
counters below M-mode, the h halves, fflags and frm of fcsr) or a constant (misa, the identity registers, medeleg,
mideleg, satp) has no field: Machine/Csr.lean computes what it reads and what a write to it changes.
-/
namespace Sys2Proof.Machine

open Sys2Proof

/-- A privilege mode (R40, R659). -/
inductive Priv where
  | user
  | supervisor
  | machine
deriving DecidableEq, Repr

/-- The stored fields of mstatus (R34); its other bits are constants or, like SD, computed. -/
structure Mstatus where
  sie : Bool
  mie : Bool
  spie : Bool
  mpie : Bool
  /-- SPP: true is S, false is U. -/
  spp : Bool
  /-- MPP, held as the mode it names (log 25). -/
  mpp : Priv
  fs : BitVec 2
  tvm : Bool
  tw : Bool
  tsr : Bool
deriving DecidableEq, Repr

/-- The enable bits of mie (R38). -/
structure Mie where
  ssi : Bool
  msi : Bool
  sti : Bool
  mti : Bool
  sei : Bool
  mei : Bool
deriving DecidableEq, Repr

/-- The bits of mip that software writes (R38, R648). -/
structure SoftPending where
  ssip : Bool
  stip : Bool
  seip : Bool
deriving DecidableEq, Repr

/-- The levels of the platform's interrupt lines (R42, R648). -/
structure Lines where
  msi : Bool
  mti : Bool
  mei : Bool
deriving DecidableEq, Repr

/-- A load reservation (R41): the address, and 4 or 8 bytes. -/
structure Reservation where
  addr : Word
  size : Nat
deriving DecidableEq, Repr

/-- The state of the machine: one hart (R20) and its memory (R43). -/
structure State where
  /-- The implementation parameters of R6; no step changes them (log 1). -/
  cfg : Params
  /-- The x registers (R21); entry 0 is never used (R22). -/
  x : Vector Word 32
  /-- The f registers (R28). -/
  f : Vector Word 32
  /-- The program counter (R25). -/
  pc : Word
  /-- fcsr.fflags: NV, DZ, OF, UF, NX from bit 4 to bit 0 (R30). -/
  fflags : BitVec 5
  /-- fcsr.frm (R30). -/
  frm : BitVec 3
  /-- The privilege mode (R40). -/
  priv : Priv
  /-- mstatus (R34); sstatus is a view of it (R36). -/
  mstatus : Mstatus
  /-- mepc (R35) and sepc (R36). -/
  mepc : Word
  sepc : Word
  /-- The other trap registers of M-mode (R38). -/
  mcause : Word
  mtval : Word
  mscratch : Word
  mtvec : Word
  /-- The supervisor's, which hardware never writes (R39). -/
  scause : Word
  stval : Word
  sscratch : Word
  stvec : Word
  /-- mie (R38) and the writable bits of mip (R38). -/
  mie : Mie
  mip : SoftPending
  /-- The interrupt lines (R42, R648). -/
  lines : Lines
  /-- mcounteren (R38) and scounteren (R39): bit 0 CY, bit 1 TM, bit 2 IR. -/
  mcounteren : BitVec 3
  scounteren : BitVec 3
  /-- The counters (R37). -/
  mcycle : BitVec 64
  minstret : BitVec 64
  mtime : BitVec 64
  /-- The load reservation (R41). -/
  reservation : Option Reservation
  /-- Memory (R43, R70): sorted by address, no entry equal to what an unlisted byte reads as. -/
  mem : List Host.Cell
  /-- Memory as it was at the last fence.i: the old bytes a fetch may still see (R93 i), in the same form. -/
  imem : List Host.Cell
  /-- The MODEL's own: the index the free values of Config.lean are applied to (log 31). -/
  drawIndex : Nat
deriving DecidableEq, Repr

/-- Why the machine stops. -/
inductive Fault where
  /-- A trap under TrapModel = terminal (R669), tagged with what R652 would have recorded: whether it is an interrupt,
  its code, its value and its epc. Raised by every trap of such a configuration. Safe: the spec ends the run there. -/
  | trapped (interrupt : Bool) (code : Nat) (value : Word) (epc : Word)
deriving DecidableEq, Repr

/-- What the model does not answer. -/
inductive Refusal where
  /-- An instruction without a meaning. Raised by no instruction: every arm of `exec` has one. Safe. -/
  | notModelled (mnemonic : String)
  /-- An access to a device region of MemMap: spec/93 I14 says `refuse`, the effect being the platform's (R79, R80, R665).
  Raised by loads, stores, atomics and fetches that touch such an address, but by no store-conditional that fails. Safe:
  nothing follows from a refusal (log 21). -/
  | deviceAccess (addr : Nat)
deriving DecidableEq, Repr

/-- What a step, or a meaning, answers. -/
abbrev Result := Host.Outcome State Fault Refusal

/-- The parameters of the reset state: RV64IMAFDC with S- and U-mode, the defaults of R6 where it has them, one
region of memory (the shape of R80's default) over the whole address space (log 2). -/
def resetParams : Params where
  xlen := .rv64
  extM := true
  extA := true
  extF := true
  extD := true
  extC := true
  hasS := true
  hasU := true
  misaligned := .trap
  memMap := [⟨0, 2 ^ 64, .memory, true, true, true⟩]
  resetPc := 0x80000000
  hartId := 0
  scFailCode := 1
  irqMSI := false
  irqMTI := false
  irqMEI := false
  trapModel := .full
  scChoice := .pinned
  fetchChoice := .pinned
  cycleChoice := .pinned
  lineChoice := .pinned

/-- The machine with the parameters p right after reset (R6, R45, R700, R701): pc is RESET_PC, priv, mstatus.MIE, mcause,
mip and the reservation are as the spec says; every other register has the value its log entry names (log 3 to 8), MPP the
least mode that exists (log 5). -/
def State.resetOf (p : Params) : State where
  cfg := p
  x := Vector.replicate 32 0
  f := Vector.replicate 32 0
  pc := p.resetPc
  fflags := 0
  frm := 0
  priv := .machine
  mstatus := ⟨false, false, false, false, false, if p.hasU then .user else .machine, 0, false, false, false⟩
  mepc := 0
  sepc := 0
  mcause := 0
  mtval := 0
  mscratch := 0
  mtvec := 0
  scause := 0
  stval := 0
  sscratch := 0
  stvec := 0
  mie := ⟨false, false, false, false, false, false⟩
  mip := ⟨false, false, false⟩
  lines := ⟨false, false, false⟩
  mcounteren := 0
  scounteren := 0
  mcycle := 0
  minstret := 0
  mtime := 0
  reservation := none
  mem := []
  imem := []
  drawIndex := 0

/-- The machine right after reset, with the parameters `resetParams` (log 2). -/
def State.reset : State := State.resetOf resetParams

end Sys2Proof.Machine
end

