-- ==== Sys2Proof/Machine/Ops.lean ====
section
/-!
DEFINITION. Sys2Proof/Machine/Ops.lean: the named operations over registers and memory, and taking a trap.

Every read and write of a register or of memory by an instruction goes through an operation of this file, and so does
every exception. XLEN-bit values are cut to XLEN bits on the way in and on the way out (`State.norm`, log 10).
-/
namespace Sys2Proof.Machine

open Sys2Proof

/-! ## XLEN -/

/-- A value modulo 2^XLEN (R8, R27). -/
def Params.norm (p : Params) (v : Word) : Word :=
  match p.xlen with
  | .rv32 => (v.setWidth 32).setWidth 64
  | .rv64 => v

/-- A value modulo 2^XLEN. -/
def State.norm (s : State) (v : Word) : Word := Params.norm s.cfg v

/-- sext_XLEN (R9). -/
def State.sext {n : Nat} (s : State) (v : BitVec n) : Word := s.norm (v.signExtend 64)

/-- zext_XLEN (R9). -/
def State.zext {n : Nat} (s : State) (v : BitVec n) : Word := s.norm (v.setWidth 64)

/-! ## Registers -/

/-- Read an x register: x0 is 0 (R21, R22). -/
def State.getX (s : State) (i : Reg) : Word :=
  if i = 0 then 0 else s.norm (s.x[i.toNat]'i.isLt)

/-- Write an x register: a write to x0 is discarded (R22). -/
def State.setX (s : State) (i : Reg) (v : Word) : State :=
  if i = 0 then s else { s with x := s.x.set i.toNat (s.norm v) i.isLt }

/-- The x register a 3-bit field names (R24). -/
def creg (r : CReg) : Reg := 0b01#2 ++ r

/-- pc advanced past an instruction of this length (R25, R27). -/
def State.advance (s : State) (len : Word) : State := { s with pc := s.norm (s.pc + len) }

/-- The instruction is counted as retired (R26 step 6, R37). -/
def State.retire (s : State) : State := { s with minstret := s.minstret + 1 }

/-- The end of a sequential instruction: pc advances and it retires. -/
def State.finish (s : State) (len : Word) : Result := .next (s.advance len).retire

/-! ## Exceptions (R641) -/

/-- The exceptions, EnvironmentCall with the mode it comes from. -/
inductive Cause where
  | instructionAddressMisaligned
  | instructionAccessFault
  | illegalInstruction
  | breakpoint
  | loadAddressMisaligned
  | loadAccessFault
  | storeAddressMisaligned
  | storeAccessFault
  | environmentCall (from_ : Priv)
deriving DecidableEq, Repr

/-- The numeric encoding of a mode (R40). -/
def Priv.level : Priv → Nat
  | .user => 0
  | .supervisor => 1
  | .machine => 3

/-- The cause code (R641). -/
def Cause.code : Cause → Nat
  | .instructionAddressMisaligned => 0
  | .instructionAccessFault => 1
  | .illegalInstruction => 2
  | .breakpoint => 3
  | .loadAddressMisaligned => 4
  | .loadAccessFault => 5
  | .storeAddressMisaligned => 6
  | .storeAccessFault => 7
  | .environmentCall p => 8 + Priv.level p

/-! ## Trap entry and return (R652 to R656) -/

/-- What mepc and sepc hold of a value: bit 0 is 0, and bit 1 too when IALIGN is 32 (R35). -/
def State.epcOf (s : State) (v : Word) : Word :=
  s.norm (if s.cfg.extC then v &&& ~~~ 1#64 else v &&& ~~~ 3#64)

/-- mcause of a trap: bit XLEN-1 marks an interrupt (R652 step 2). -/
def State.causeWord (s : State) (interrupt : Bool) (code : Nat) : Word :=
  BitVec.ofNat 64 ((if interrupt then 2 ^ (s.cfg.xlen.bits - 1) else 0) + code)

/-- The handler address (R654): BASE, or BASE + 4 * code for an interrupt in vectored mode. -/
def State.handler (s : State) (interrupt : Bool) (code : Nat) : Word :=
  let base := s.mtvec &&& ~~~ 3#64
  s.norm (if interrupt && bits s.mtvec 0 2 == 1#2 then base + BitVec.ofNat 64 (4 * code) else base)

/-- Trap entry (R652). -/
def State.enterTrap (s : State) (interrupt : Bool) (code : Nat) (value : Word) : State :=
  { s with
    mepc := s.epcOf s.pc
    mcause := s.causeWord interrupt code
    mtval := s.norm value
    mstatus := { s.mstatus with mpp := s.priv, mpie := s.mstatus.mie, mie := false }
    priv := .machine
    reservation := none
    pc := s.handler interrupt code }

/-- A trap: entry into the handler, or the end of the run under TrapModel = terminal (R652, R669). -/
def State.trap (s : State) (interrupt : Bool) (code : Nat) (value : Word) : Result :=
  match s.cfg.trapModel with
  | .full => .next (s.enterTrap interrupt code value)
  | .terminal => .fault (.trapped interrupt code (s.norm value) s.pc)

/-- `raise E(value)` (R9, R640): the instruction at pc raises an exception. -/
def State.raise (s : State) (c : Cause) (value : Word) : Result := s.trap false c.code value

/-- IllegalInstruction, recording the instruction's own bits (R642, R643). -/
def State.illegal (s : State) (i : Instr) : Result := s.raise .illegalInstruction (encode i).value

/-- The mode mret leaves in mstatus.MPP (R655). -/
def State.mppAfterReturn (s : State) : Priv := if s.cfg.hasU then .user else s.mstatus.mpp

/-- mret's assignments (R655); pc last. -/
def State.returnM (s : State) : State :=
  { s with
    pc := s.epcOf s.mepc
    priv := s.mstatus.mpp
    mstatus := { s.mstatus with mie := s.mstatus.mpie, mpie := true, mpp := s.mppAfterReturn }
    reservation := none }

/-- sret's assignments (R656). -/
def State.returnS (s : State) : State :=
  { s with
    pc := s.epcOf s.sepc
    priv := if s.mstatus.spp then .supervisor else .user
    mstatus := { s.mstatus with sie := s.mstatus.spie, spie := true, spp := false }
    reservation := none }

/-! ## Memory (R70 to R81) -/

/-- What a byte no one has written reads as (R45: unspecified; log 8). -/
def Memory.blank : Byte := 0

/-- The byte at an address. -/
def Memory.read : List Host.Cell → Nat → Byte
  | [], _ => Memory.blank
  | (b, v) :: t, a => if b = a then v else Memory.read t a

/-- Store a byte, keeping the canonical form. -/
def Memory.write : List Host.Cell → Nat → Byte → List Host.Cell
  | [], a, v => if v = Memory.blank then [] else [(a, v)]
  | (b, w) :: t, a, v =>
    if a < b then (if v = Memory.blank then (b, w) :: t else (a, v) :: (b, w) :: t)
    else if a = b then (if v = Memory.blank then t else (a, v) :: t)
    else (b, w) :: Memory.write t a v

/-- Every address of the list is at least lo, they rise strictly, and no entry is blank. -/
def Memory.sortedFrom : Nat → List Host.Cell → Bool
  | _, [] => true
  | lo, (a, v) :: t => decide (lo ≤ a) && (v != Memory.blank) && Memory.sortedFrom (a + 1) t

/-- The canonical form of memory. -/
def Memory.wf (m : List Host.Cell) : Bool := Memory.sortedFrom 0 m

/-- The byte at an address of the machine. -/
def State.byte (s : State) (a : Word) : Byte := Memory.read s.mem (s.norm a).toNat

/-- Does the reservation hold this byte (R41)? -/
def State.reserves (s : State) (a : Word) : Bool :=
  match s.reservation with
  | none => false
  | some r => (List.range r.size).any (fun i => s.norm (r.addr + BitVec.ofNat 64 i) == s.norm a)

/-- Store one byte; a reservation that holds it is lost (R41 c, R73). -/
def State.setByte (s : State) (a : Word) (v : Byte) : State :=
  { s with
    mem := Memory.write s.mem (s.norm a).toNat v
    reservation := if s.reserves a then none else s.reservation }

/-- The n bytes from a, least significant first (R72, R73). -/
def State.readBytes (s : State) (a : Word) : Nat → Word
  | 0 => 0
  | n + 1 => (s.readBytes (a + 1) n) <<< 8 ||| (s.byte a).setWidth 64

/-- Store the low n bytes of v from a on, least significant first (R72, R73). -/
def State.writeBytes (s : State) (a : Word) : Nat → Word → State
  | 0, _ => s
  | n + 1, v => (s.setByte a (v.setWidth 8)).writeBytes (a + 1) n (v >>> 8)

/-- The kinds of access and the permissions they need (R81). -/
inductive Access where
  | load
  | store
  | atomic
  | fetch
deriving DecidableEq, Repr

/-- The region of MemMap that holds an address, if it is not vacant (R80). -/
def Params.regionAt (p : Params) (a : Nat) : Option Region :=
  p.memMap.find? (fun r => decide (r.base ≤ a) && decide (a < r.base + r.size))

/-- Does a region grant this access (R81)? -/
def Region.grants (r : Region) : Access → Bool
  | .load => r.r
  | .store => r.w
  | .atomic => r.r && r.w
  | .fetch => r.x

/-- What the check of one byte, or of an access, answers. -/
inductive Check where
  | ok
  | denied
  | device (addr : Nat)
deriving DecidableEq, Repr

/-- The check of one byte (R81). -/
def State.checkByte (s : State) (k : Access) (a : Word) : Check :=
  let n := (s.norm a).toNat
  match Params.regionAt s.cfg n with
  | none => .denied
  | some r =>
    if Region.grants r k then (match r.kind with | .memory => .ok | .device => .device n) else .denied

/-- Two checks of one access: a denied byte counts before a device byte (log 34). -/
def Check.both : Check → Check → Check
  | .denied, _ => .denied
  | _, .denied => .denied
  | .device a, _ => .device a
  | .ok, c => c

/-- The check of an access of n bytes, every byte of it (R81). -/
def State.check (s : State) (k : Access) (a : Word) : Nat → Check
  | 0 => .ok
  | n + 1 => (s.checkByte k a).both (s.check k (a + 1) n)

/-- Natural alignment (R75). -/
def State.aligned (s : State) (a : Word) (n : Nat) : Bool := (s.norm a).toNat % n == 0

/-- The first byte of a split access that may not be made, if there is one (R75, log 32). -/
def State.firstRefused (s : State) (k : Access) (a : Word) : Nat → Check
  | 0 => .ok
  | n + 1 =>
    match s.checkByte k a with
    | .ok => s.firstRefused k (a + 1) n
    | c => c

/-- `MemRead(a, n)` of a load (R73, R75, R81), and what follows it. -/
def State.load (s : State) (a : Word) (n : Nat) (k : Word → Result) : Result :=
  if s.aligned a n then
    match s.check .load a n with
    | .ok => k (s.readBytes a n)
    | .denied => s.raise .loadAccessFault a
    | .device d => .refused (.deviceAccess d)
  else
    match s.cfg.misaligned with
    | .trap => s.raise .loadAddressMisaligned a
    | .split =>
      match s.firstRefused .load a n with
      | .ok => k (s.readBytes a n)
      | .denied => s.raise .loadAccessFault a
      | .device d => .refused (.deviceAccess d)

/-- The byte accesses of a split store to `at_`, on behalf of a store to a: the bytes before a faulting one stay
written (R75, R653). -/
def State.splitStore (s : State) (a at_ : Word) (n : Nat) (v : Word) (k : State → Result) : Result :=
  match n with
  | 0 => k s
  | n + 1 =>
    match s.checkByte .store at_ with
    | .ok => (s.setByte at_ (v.setWidth 8)).splitStore a (at_ + 1) n (v >>> 8) k
    | .denied => s.raise .storeAccessFault a
    | .device d => .refused (.deviceAccess d)

/-- `MemWrite(a, n, v)` of a store (R73, R75, R81), and what follows it. -/
def State.store (s : State) (a : Word) (n : Nat) (v : Word) (k : State → Result) : Result :=
  if s.aligned a n then
    match s.check .store a n with
    | .ok => k (s.writeBytes a n v)
    | .denied => s.raise .storeAccessFault a
    | .device d => .refused (.deviceAccess d)
  else
    match s.cfg.misaligned with
    | .trap => s.raise .storeAddressMisaligned a
    | .split => s.splitStore a a n v k

/-- The checks of an lr: never split (R76), R permission (R81). -/
def State.reservedLoad (s : State) (a : Word) (n : Nat) (k : Word → Result) : Result :=
  if s.aligned a n then
    match s.check .load a n with
    | .ok => k (s.readBytes a n)
    | .denied => s.raise .loadAccessFault a
    | .device d => .refused (.deviceAccess d)
  else s.raise .loadAddressMisaligned a

/-- The checks of an sc or an AMO: never split (R76), R and W permission (R81). What follows them is `k` in memory, and
`onDevice` at a device byte. -/
def State.atomicallyOr (s : State) (a : Word) (n : Nat) (k : Result) (onDevice : Nat → Result) : Result :=
  if s.aligned a n then
    match s.check .atomic a n with
    | .ok => k
    | .denied => s.raise .storeAccessFault a
    | .device d => onDevice d
  else s.raise .storeAddressMisaligned a

/-- The checks of an AMO, or of an sc that stores. -/
def State.atomically (s : State) (a : Word) (n : Nat) (k : Result) : Result :=
  s.atomicallyOr a n k (fun d => .refused (.deviceAccess d))

end Sys2Proof.Machine
end

