-- ==== Sys2Proof/Machine/Avail.lean ====
section
/-!
DEFINITION. Sys2Proof/Machine/Avail.lean: which instructions the machine has, and the gate every meaning passes.

R175: the extensions and the XLEN of the row; R140 and R162: shamt[5] = 0 on XLEN = 32; R404 (b): mstatus.FS is not Off
for a floating-point instruction. What fails the gate raises IllegalInstruction (R643 b, d, e, j).
-/
namespace Sys2Proof.Machine

open Sys2Proof

/-- Are the extensions of a row present (R175)? I and priv-M always are; priv-S needs HAS_S. -/
def Params.has (p : Params) : Ext → Bool
  | .base => true
  | .m => p.extM
  | .a => p.extA
  | .f => p.extF
  | .d => p.extF && p.extD
  | .c => p.extC
  | .cf => p.extC && p.extF
  | .cd => p.extC && (p.extF && p.extD)
  | .privM => true
  | .privS => p.hasS

/-- Is this a floating-point instruction, one that mstatus.FS = 0 turns off (R404 b)? -/
def Ext.isFloat : Ext → Bool
  | .f => true
  | .d => true
  | .cf => true
  | .cd => true
  | .base => false
  | .m => false
  | .a => false
  | .c => false
  | .privM => false
  | .privS => false

/-- Is the instruction available under these parameters (R175, and the constraint on shamt of R140 and R162)? -/
def Params.available (p : Params) (i : Instr) : Bool :=
  Params.has p i.ext && (i.xlenOnly.all (fun x => x == p.xlen)) &&
    (p.xlen == .rv64 || bits i.shamt 5 1 == 0#1)

/-- Is floating point on (R404 b)? -/
def State.fpOn (s : State) : Bool := s.cfg.extF && s.mstatus.fs != 0

/-- Does the instruction pass the gate? -/
def State.permits (s : State) (i : Instr) : Bool :=
  Params.available s.cfg i && (!(Ext.isFloat i.ext) || s.fpOn)

/-- The gate of every meaning: what it does when it may run, else IllegalInstruction (R643, R650). -/
def State.gate (s : State) (i : Instr) (r : Result) : Result := if s.permits i then r else s.illegal i

end Sys2Proof.Machine
end

