-- ==== Sys2Proof/Machine/Flags.lean ====
section
/-!
DEFINITION. Sys2Proof/Machine/Flags.lean: the flags of the machine.

There are no integer flags (R31). The only ones are the five accrued floating-point flags of fcsr.fflags (R30), which
instructions OR into and only a CSR write clears (R404 a).
-/
namespace Sys2Proof.Machine

open Sys2Proof

/-- NX, inexact: bit 0 (R30). -/
def flagNX : BitVec 5 := 0b00001#5
/-- UF, underflow: bit 1. -/
def flagUF : BitVec 5 := 0b00010#5
/-- OF, overflow: bit 2. -/
def flagOF : BitVec 5 := 0b00100#5
/-- DZ, division by zero: bit 3. -/
def flagDZ : BitVec 5 := 0b01000#5
/-- NV, invalid operation: bit 4. -/
def flagNV : BitVec 5 := 0b10000#5

/-- NX when a result is inexact. -/
def flagIf (c : Bool) (fl : BitVec 5) : BitVec 5 := if c then fl else 0

/-- mstatus.FS becomes Dirty (R404 c). -/
def State.dirty (s : State) : State := { s with mstatus := { s.mstatus with fs := 3 } }

/-- The flags an instruction signals accrue (R404 a); fcsr is written, so FS becomes Dirty, even when no flag is new
(R404 c, log 19). -/
def State.accrue (s : State) (fl : BitVec 5) : State := { s.dirty with fflags := s.fflags ||| fl }

end Sys2Proof.Machine
end

