-- ==== Sys2Proof/Machine/Operands.lean ====
section
/-!
DEFINITION. Sys2Proof/Machine/Operands.lean: the operand forms, and the shapes of instruction the meanings are made of.

Every form reads its sources from the state before the instruction and writes after (R26). `len` is the length of the
instruction: 4, or 2 for a compressed one (R503).
-/
namespace Sys2Proof.Machine

open Sys2Proof

/-! ## Integer computation -/

/-- An operation at width XLEN on two XLEN-bit values. -/
def State.wide (s : State) (op : (n : Nat) → BitVec n → BitVec n → BitVec n) (a b : Word) : Word :=
  match s.cfg.xlen with
  | .rv32 => (op 32 (a.setWidth 32) (b.setWidth 32)).setWidth 64
  | .rv64 => op 64 a b

/-- An operation on bits 31:0 of two values, its result sign-extended (R200 f, R340 e). -/
def wordWide (op : (n : Nat) → BitVec n → BitVec n → BitVec n) (a b : Word) : Word :=
  (op 32 (a.setWidth 32) (b.setWidth 32)).signExtend 64

/-- A comparison at width XLEN. -/
def State.compare (s : State) (op : (n : Nat) → BitVec n → BitVec n → Bool) (a b : Word) : Bool :=
  match s.cfg.xlen with
  | .rv32 => op 32 (a.setWidth 32) (b.setWidth 32)
  | .rv64 => op 64 a b

/-- The result goes to x[rd] and the instruction ends (R200 b, c). -/
def State.result (s : State) (len : Word) (rd : Reg) (v : Word) : Result := (s.setX rd v).finish len

/-- x[rd] <- x[rs1] op x[rs2]. -/
def State.opReg (s : State) (len : Word) (rd rs1 rs2 : Reg) (op : (n : Nat) → BitVec n → BitVec n → BitVec n) : Result :=
  s.result len rd (s.wide op (s.getX rs1) (s.getX rs2))

/-- x[rd] <- x[rs1] op a value of the instruction. -/
def State.opImm (s : State) (len : Word) (rd rs1 : Reg) (v : Word) (op : (n : Nat) → BitVec n → BitVec n → BitVec n) :
    Result :=
  s.result len rd (s.wide op (s.getX rs1) v)

/-- The word forms of the two. -/
def State.opRegW (s : State) (len : Word) (rd rs1 rs2 : Reg) (op : (n : Nat) → BitVec n → BitVec n → BitVec n) :
    Result :=
  s.result len rd (wordWide op (s.getX rs1) (s.getX rs2))

def State.opImmW (s : State) (len : Word) (rd rs1 : Reg) (v : Word) (op : (n : Nat) → BitVec n → BitVec n → BitVec n) :
    Result :=
  s.result len rd (wordWide op (s.getX rs1) v)

/-- The value {imm, 12'b0} of a U-immediate, sign-extended (R138). -/
def State.upper (s : State) (imm : BitVec 20) : Word := s.sext (imm ++ 0#12)

/-! ## Control transfer (R260) -/

/-- Is this no address of an instruction (R644 a)? With C every even address is one; without, the multiples of 4. -/
def State.badTarget (s : State) (t : Word) : Bool :=
  if s.cfg.extC then bits t 0 1 != 0#1 else bits t 0 2 != 0#2

/-- Continue at t, or InstructionAddressMisaligned(t) (R260 e, R644 a). -/
def State.jumpTo (s : State) (t : Word) : Result :=
  if s.badTarget t then s.raise .instructionAddressMisaligned t else .next { s with pc := t }.retire

/-- Continue at t with the link in x[rd], or InstructionAddressMisaligned(t) and no link (R260 d, e). -/
def State.jumpLink (s : State) (len : Word) (rd : Reg) (t : Word) : Result :=
  if s.badTarget t then s.raise .instructionAddressMisaligned t
  else .next { s.setX rd (s.norm (s.pc + len)) with pc := t }.retire

/-- A branch: to pc + offset when taken, else on (R260 b). -/
def State.branch {n : Nat} (s : State) (len : Word) (taken : Bool) (offset : BitVec n) : Result :=
  if taken then s.jumpTo (s.norm (s.pc + s.sext offset)) else s.finish len

/-- The target of jalr: the sum with bit 0 cleared (R268). -/
def State.indirect (s : State) (rs1 : Reg) (offset : Word) : Word := s.norm (s.getX rs1 + offset) &&& ~~~ 1#64

/-! ## Memory operands (R95, R280) -/

/-- The effective address x[rs1] + displacement (R95). -/
def State.ea (s : State) (rs1 : Reg) (displacement : Word) : Word := s.norm (s.getX rs1 + displacement)

/-- The low n bits of a value read from memory, sign-extended (R280 b). -/
def signed (n : Nat) (v : Word) : Word := (v.setWidth n).signExtend 64

/-- The low n bits of a value read from memory, zero-extended (R280 b). -/
def unsigned (n : Nat) (v : Word) : Word := (v.setWidth n).setWidth 64

/-- An integer load of n bytes (R280). -/
def State.loadX (s : State) (len : Word) (rd : Reg) (a : Word) (n : Nat) (extend : Word → Word) : Result :=
  s.load a n (fun v => s.result len rd (extend v))

/-- A store of the low n bytes of v (R280). -/
def State.storeV (s : State) (len : Word) (a : Word) (n : Nat) (v : Word) : Result :=
  s.store a n v (fun t => t.finish len)

/-! ## Atomics (R360) -/

/-- `amo*.w` (R360 c): the old word, sign-extended, to x[rd]; op of it and x[rs2] to memory. -/
def State.amoW (s : State) (rd rs1 rs2 : Reg) (op : (n : Nat) → BitVec n → BitVec n → BitVec n) : Result :=
  let a := s.getX rs1
  s.atomically a 4
    (let t : BitVec 32 := (s.readBytes a 4).setWidth 32
     let v : BitVec 32 := op 32 t ((s.getX rs2).setWidth 32)
     (s.writeBytes a 4 (v.setWidth 64)).result 4 rd (t.signExtend 64))

/-- `amo*.d` (R360 c). -/
def State.amoD (s : State) (rd rs1 rs2 : Reg) (op : (n : Nat) → BitVec n → BitVec n → BitVec n) : Result :=
  let a := s.getX rs1
  s.atomically a 8
    (let t := s.readBytes a 8
     (s.writeBytes a 8 (op 64 t (s.getX rs2))).result 4 rd t)

/-- lr of n bytes (R379, R380): the value to x[rd], and the reservation. -/
def State.loadReserved (s : State) (rd rs1 : Reg) (n : Nat) (extend : Word → Word) : Result :=
  let a := s.getX rs1
  s.reservedLoad a n (fun v => { s with reservation := some ⟨a, n⟩ }.result 4 rd (extend v))

/-- Does the sc at this draw fail although its reservation matches (R91 e)? -/
def State.spurious (s : State) : Bool :=
  match s.cfg.scChoice with
  | .pinned => false
  | .free => Config.scSpurious s.drawIndex

/-- Does an sc of n bytes at a succeed (R91 a, e)? -/
def State.scSucceeds (s : State) (a : Word) (n : Nat) : Bool :=
  s.reservation == some ⟨a, n⟩ && !s.spurious

/-- sc of n bytes (R381, R382): store and 0, or SC_FAIL_CODE; the reservation is gone either way. One that fails is checked
like one that stores (R81) but accesses nothing, so a device byte does not stop it. -/
def State.storeConditional (s : State) (rd rs1 rs2 : Reg) (n : Nat) : Result :=
  let a := s.getX rs1
  let failed := { s with reservation := none }.result 4 rd s.cfg.scFailCode
  if s.scSucceeds a n then s.atomically a n ({ s.writeBytes a n (s.getX rs2) with reservation := none }.result 4 rd 0)
  else s.atomicallyOr a n failed (fun _ => failed)

/-! ## Floating-point operands (R28, R29, R402, R403) -/

/-- The canonical NaNs (R400). -/
def canonicalS : BitVec 32 := 0x7FC00000#32
def canonicalD : BitVec 64 := 0x7FF8000000000000#64

/-- The contents of an f register: FLEN is 64 with D, else 32 (R28). -/
def State.getF (s : State) (i : FReg) : Word :=
  let v := s.f[i.toNat]'i.isLt
  if s.cfg.extD then v else (v.setWidth 32).setWidth 64

/-- A single-precision operand: unbox32 of the register (R29, R403). -/
def State.getS (s : State) (i : FReg) : BitVec 32 :=
  let v := s.getF i
  if s.cfg.extD && bits v 32 32 != BitVec.allOnes 32 then canonicalS else v.setWidth 32

/-- Write an f register; FS becomes Dirty (R404 c). -/
def State.setF (s : State) (i : FReg) (v : Word) : State := { s.dirty with f := s.f.set i.toNat v i.isLt }

/-- What an f register holds of a single-precision result: box32 of it, with FLEN = 64 (R29, R403). -/
def State.box (s : State) (v : BitVec 32) : Word :=
  if s.cfg.extD then BitVec.allOnes 32 ++ v else v.setWidth 64

/-- Write a single-precision result. -/
def State.setS (s : State) (i : FReg) (v : BitVec 32) : State := s.setF i (s.box v)

/-- The rounding modes (R402). -/
inductive Rounding where
  | nearestEven
  | towardZero
  | down
  | up
  | nearestMax
deriving DecidableEq, Repr

/-- The mode a 3-bit value names; 101, 110 and 111 name none (R402). -/
def Rounding.ofBits (v : BitVec 3) : Option Rounding :=
  match v with
  | 0b000#3 => some .nearestEven
  | 0b001#3 => some .towardZero
  | 0b010#3 => some .down
  | 0b011#3 => some .up
  | 0b100#3 => some .nearestMax
  | _ => none

/-- The effective rounding mode: the field, or fcsr.frm when it is 111 (R402). -/
def State.rounding (s : State) (rm : BitVec 3) : Option Rounding :=
  if rm = 0b111#3 then Rounding.ofBits s.frm else Rounding.ofBits rm

/-- What an instruction with an rm field does in its rounding mode; IllegalInstruction when there is none (R402). -/
def State.rounded (s : State) (i : Instr) (rm : BitVec 3) (k : Rounding → Result) : Result :=
  match s.rounding rm with
  | some m => k m
  | none => s.illegal i

/-- A single-precision result and its flags (R404). -/
def State.resultS (s : State) (rd : FReg) (r : BitVec 32 × BitVec 5) : Result := ((s.setS rd r.1).accrue r.2).finish 4

/-- A double-precision result and its flags. -/
def State.resultD (s : State) (rd : FReg) (r : BitVec 64 × BitVec 5) : Result := ((s.setF rd r.1).accrue r.2).finish 4

/-- An integer result of a floating-point instruction, and its flags (R404 d). -/
def State.resultFlags (s : State) (rd : Reg) (r : Word × BitVec 5) : Result := ((s.setX rd r.1).accrue r.2).finish 4

/-- A floating-point load (R419, R465): nothing is checked but the access, nothing converted. -/
def State.loadS (s : State) (len : Word) (rd : FReg) (a : Word) : Result :=
  s.load a 4 (fun v => (s.setS rd (v.setWidth 32)).finish len)

def State.loadD (s : State) (len : Word) (rd : FReg) (a : Word) : Result :=
  s.load a 8 (fun v => (s.setF rd v).finish len)

end Sys2Proof.Machine
end

