-- ==== Sys2Proof/Machine/Atomic.lean ====
section
/-!
DEFINITION. Sys2Proof/Machine/Atomic.lean: the meanings of the A extension (R360 to R382).
-/
namespace Sys2Proof.Machine

open Sys2Proof

/-- `amoadd.d` (R361). -/
def execAmoaddD (aq rl : Bool) (rd rs1 rs2 : Reg) (s : State) : Result :=
  s.gate (.amoaddD aq rl rd rs1 rs2) (s.amoD rd rs1 rs2 Alu.add)

/-- `amoadd.w` (R362). -/
def execAmoaddW (aq rl : Bool) (rd rs1 rs2 : Reg) (s : State) : Result :=
  s.gate (.amoaddW aq rl rd rs1 rs2) (s.amoW rd rs1 rs2 Alu.add)

/-- `amoand.d` (R363). -/
def execAmoandD (aq rl : Bool) (rd rs1 rs2 : Reg) (s : State) : Result :=
  s.gate (.amoandD aq rl rd rs1 rs2) (s.amoD rd rs1 rs2 Alu.and)

/-- `amoand.w` (R364). -/
def execAmoandW (aq rl : Bool) (rd rs1 rs2 : Reg) (s : State) : Result :=
  s.gate (.amoandW aq rl rd rs1 rs2) (s.amoW rd rs1 rs2 Alu.and)

/-- `amomax.d` (R365). -/
def execAmomaxD (aq rl : Bool) (rd rs1 rs2 : Reg) (s : State) : Result :=
  s.gate (.amomaxD aq rl rd rs1 rs2) (s.amoD rd rs1 rs2 Alu.max)

/-- `amomax.w` (R366). -/
def execAmomaxW (aq rl : Bool) (rd rs1 rs2 : Reg) (s : State) : Result :=
  s.gate (.amomaxW aq rl rd rs1 rs2) (s.amoW rd rs1 rs2 Alu.max)

/-- `amomaxu.d` (R367). -/
def execAmomaxuD (aq rl : Bool) (rd rs1 rs2 : Reg) (s : State) : Result :=
  s.gate (.amomaxuD aq rl rd rs1 rs2) (s.amoD rd rs1 rs2 Alu.maxu)

/-- `amomaxu.w` (R368). -/
def execAmomaxuW (aq rl : Bool) (rd rs1 rs2 : Reg) (s : State) : Result :=
  s.gate (.amomaxuW aq rl rd rs1 rs2) (s.amoW rd rs1 rs2 Alu.maxu)

/-- `amomin.d` (R369). -/
def execAmominD (aq rl : Bool) (rd rs1 rs2 : Reg) (s : State) : Result :=
  s.gate (.amominD aq rl rd rs1 rs2) (s.amoD rd rs1 rs2 Alu.min)

/-- `amomin.w` (R370). -/
def execAmominW (aq rl : Bool) (rd rs1 rs2 : Reg) (s : State) : Result :=
  s.gate (.amominW aq rl rd rs1 rs2) (s.amoW rd rs1 rs2 Alu.min)

/-- `amominu.d` (R371). -/
def execAmominuD (aq rl : Bool) (rd rs1 rs2 : Reg) (s : State) : Result :=
  s.gate (.amominuD aq rl rd rs1 rs2) (s.amoD rd rs1 rs2 Alu.minu)

/-- `amominu.w` (R372). -/
def execAmominuW (aq rl : Bool) (rd rs1 rs2 : Reg) (s : State) : Result :=
  s.gate (.amominuW aq rl rd rs1 rs2) (s.amoW rd rs1 rs2 Alu.minu)

/-- `amoor.d` (R373). -/
def execAmoorD (aq rl : Bool) (rd rs1 rs2 : Reg) (s : State) : Result :=
  s.gate (.amoorD aq rl rd rs1 rs2) (s.amoD rd rs1 rs2 Alu.or)

/-- `amoor.w` (R374). -/
def execAmoorW (aq rl : Bool) (rd rs1 rs2 : Reg) (s : State) : Result :=
  s.gate (.amoorW aq rl rd rs1 rs2) (s.amoW rd rs1 rs2 Alu.or)

/-- `amoswap.d` (R375). -/
def execAmoswapD (aq rl : Bool) (rd rs1 rs2 : Reg) (s : State) : Result :=
  s.gate (.amoswapD aq rl rd rs1 rs2) (s.amoD rd rs1 rs2 Alu.second)

/-- `amoswap.w` (R376). -/
def execAmoswapW (aq rl : Bool) (rd rs1 rs2 : Reg) (s : State) : Result :=
  s.gate (.amoswapW aq rl rd rs1 rs2) (s.amoW rd rs1 rs2 Alu.second)

/-- `amoxor.d` (R377). -/
def execAmoxorD (aq rl : Bool) (rd rs1 rs2 : Reg) (s : State) : Result :=
  s.gate (.amoxorD aq rl rd rs1 rs2) (s.amoD rd rs1 rs2 Alu.xor)

/-- `amoxor.w` (R378). -/
def execAmoxorW (aq rl : Bool) (rd rs1 rs2 : Reg) (s : State) : Result :=
  s.gate (.amoxorW aq rl rd rs1 rs2) (s.amoW rd rs1 rs2 Alu.xor)

/-- `lr.d` (R379). -/
def execLrD (aq rl : Bool) (rd rs1 : Reg) (s : State) : Result :=
  s.gate (.lrD aq rl rd rs1) (s.loadReserved rd rs1 8 (unsigned 64))

/-- `lr.w` (R380). -/
def execLrW (aq rl : Bool) (rd rs1 : Reg) (s : State) : Result :=
  s.gate (.lrW aq rl rd rs1) (s.loadReserved rd rs1 4 (signed 32))

/-- `sc.d` (R381). -/
def execScD (aq rl : Bool) (rd rs1 rs2 : Reg) (s : State) : Result :=
  s.gate (.scD aq rl rd rs1 rs2) (s.storeConditional rd rs1 rs2 8)

/-- `sc.w` (R382). -/
def execScW (aq rl : Bool) (rd rs1 rs2 : Reg) (s : State) : Result :=
  s.gate (.scW aq rl rd rs1 rs2) (s.storeConditional rd rs1 rs2 4)

end Sys2Proof.Machine
end

