-- ==== Sys2Proof/Machine/Compressed.lean ====
section
/-!
DEFINITION. Sys2Proof/Machine/Compressed.lean: the meanings of the C extension (R500 to R544).
-/
namespace Sys2Proof.Machine

open Sys2Proof

/-- `c.add` (R504). As `add rd, rd, rs2`, length 2 (R500, R503). -/
def execCAdd (rd rs2 : Reg) (s : State) : Result :=
  s.gate (.cAdd rd rs2) (s.opReg 2 rd rd rs2 Alu.add)

/-- `c.addi` (R505). As `addi rd, rd, imm`, length 2 (R500, R503). -/
def execCAddi (rd : Reg) (imm : BitVec 6) (s : State) : Result :=
  s.gate (.cAddi rd imm) (s.opImm 2 rd rd (s.sext imm) Alu.add)

/-- `c.addi16sp` (R506). As `addi x2, x2, imm`, length 2 (R500, R503). -/
def execCAddi16sp (imm : BitVec 10) (s : State) : Result :=
  s.gate (.cAddi16sp imm) (s.opImm 2 2 2 (s.sext imm) Alu.add)

/-- `c.addi4spn` (R507). As `addi rd, x2, uimm`, length 2 (R500, R503). -/
def execCAddi4spn (rd : CReg) (uimm : BitVec 10) (s : State) : Result :=
  s.gate (.cAddi4spn rd uimm) (s.opImm 2 (creg rd) 2 (s.zext uimm) Alu.add)

/-- `c.addiw` (R508). As `addiw rd, rd, imm`, length 2 (R500, R503). -/
def execCAddiw (rd : Reg) (imm : BitVec 6) (s : State) : Result :=
  s.gate (.cAddiw rd imm) (s.opImmW 2 rd rd (s.sext imm) Alu.add)

/-- `c.addw` (R509). As `addw rd, rd, rs2`, length 2 (R500, R503). -/
def execCAddw (rd rs2 : CReg) (s : State) : Result :=
  s.gate (.cAddw rd rs2) (s.opRegW 2 (creg rd) (creg rd) (creg rs2) Alu.add)

/-- `c.and` (R510). As `and rd, rd, rs2`, length 2 (R500, R503). -/
def execCAnd (rd rs2 : CReg) (s : State) : Result :=
  s.gate (.cAnd rd rs2) (s.opReg 2 (creg rd) (creg rd) (creg rs2) Alu.and)

/-- `c.andi` (R511). As `andi rd, rd, imm`, length 2 (R500, R503). -/
def execCAndi (rd : CReg) (imm : BitVec 6) (s : State) : Result :=
  s.gate (.cAndi rd imm) (s.opImm 2 (creg rd) (creg rd) (s.sext imm) Alu.and)

/-- `c.beqz` (R512). As `beq rs1, x0, offset`, length 2 (R500, R503). -/
def execCBeqz (rs1 : CReg) (offset : BitVec 9) (s : State) : Result :=
  s.gate (.cBeqz rs1 offset) (s.branch 2 (s.compare Alu.eq (s.getX (creg rs1)) (s.getX 0)) offset)

/-- `c.bnez` (R513). As `bne rs1, x0, offset`, length 2 (R500, R503). -/
def execCBnez (rs1 : CReg) (offset : BitVec 9) (s : State) : Result :=
  s.gate (.cBnez rs1 offset) (s.branch 2 (s.compare Alu.ne (s.getX (creg rs1)) (s.getX 0)) offset)

/-- `c.ebreak` (R514). As `ebreak`, length 2 (R500, R503). -/
def execCEbreak (s : State) : Result :=
  s.gate .cEbreak (s.raise .breakpoint s.pc)

/-- `c.fld` (R515). As `fld rd, uimm(rs1)`, length 2 (R500, R503). -/
def execCFld (rd rs1 : CReg) (uimm : BitVec 8) (s : State) : Result :=
  s.gate (.cFld rd rs1 uimm) (s.loadD 2 (creg rd) (s.ea (creg rs1) (s.zext uimm)))

/-- `c.fldsp` (R516). As `fld rd, uimm(x2)`, length 2 (R500, R503). -/
def execCFldsp (rd : FReg) (uimm : BitVec 9) (s : State) : Result :=
  s.gate (.cFldsp rd uimm) (s.loadD 2 rd (s.ea 2 (s.zext uimm)))

/-- `c.flw` (R517). As `flw rd, uimm(rs1)`, length 2 (R500, R503). -/
def execCFlw (rd rs1 : CReg) (uimm : BitVec 7) (s : State) : Result :=
  s.gate (.cFlw rd rs1 uimm) (s.loadS 2 (creg rd) (s.ea (creg rs1) (s.zext uimm)))

/-- `c.flwsp` (R518). As `flw rd, uimm(x2)`, length 2 (R500, R503). -/
def execCFlwsp (rd : FReg) (uimm : BitVec 8) (s : State) : Result :=
  s.gate (.cFlwsp rd uimm) (s.loadS 2 rd (s.ea 2 (s.zext uimm)))

/-- `c.fsd` (R519). As `fsd rs2, uimm(rs1)`, length 2 (R500, R503). -/
def execCFsd (rs2 rs1 : CReg) (uimm : BitVec 8) (s : State) : Result :=
  s.gate (.cFsd rs2 rs1 uimm) (s.storeV 2 (s.ea (creg rs1) (s.zext uimm)) 8 (s.getF (creg rs2)))

/-- `c.fsdsp` (R520). As `fsd rs2, uimm(x2)`, length 2 (R500, R503). -/
def execCFsdsp (rs2 : FReg) (uimm : BitVec 9) (s : State) : Result :=
  s.gate (.cFsdsp rs2 uimm) (s.storeV 2 (s.ea 2 (s.zext uimm)) 8 (s.getF rs2))

/-- `c.fsw` (R521). As `fsw rs2, uimm(rs1)`, length 2 (R500, R503). -/
def execCFsw (rs2 rs1 : CReg) (uimm : BitVec 7) (s : State) : Result :=
  s.gate (.cFsw rs2 rs1 uimm) (s.storeV 2 (s.ea (creg rs1) (s.zext uimm)) 4 (s.getF (creg rs2)))

/-- `c.fswsp` (R522). As `fsw rs2, uimm(x2)`, length 2 (R500, R503). -/
def execCFswsp (rs2 : FReg) (uimm : BitVec 8) (s : State) : Result :=
  s.gate (.cFswsp rs2 uimm) (s.storeV 2 (s.ea 2 (s.zext uimm)) 4 (s.getF rs2))

/-- `c.j` (R523). As `jal x0, offset`, length 2 (R500, R503). -/
def execCJ (offset : BitVec 12) (s : State) : Result :=
  s.gate (.cJ offset) (s.jumpLink 2 0 (s.norm (s.pc + s.sext offset)))

/-- `c.jal` (R524). As `jal x1, offset`, length 2 (R500, R503). -/
def execCJal (offset : BitVec 12) (s : State) : Result :=
  s.gate (.cJal offset) (s.jumpLink 2 1 (s.norm (s.pc + s.sext offset)))

/-- `c.jalr` (R525). As `jalr x1, 0(rs1)`, length 2 (R500, R503). -/
def execCJalr (rs1 : Reg) (s : State) : Result :=
  s.gate (.cJalr rs1) (s.jumpLink 2 1 (s.indirect rs1 0))

/-- `c.jr` (R526). As `jalr x0, 0(rs1)`, length 2 (R500, R503). -/
def execCJr (rs1 : Reg) (s : State) : Result :=
  s.gate (.cJr rs1) (s.jumpLink 2 0 (s.indirect rs1 0))

/-- `c.ld` (R527). As `ld rd, uimm(rs1)`, length 2 (R500, R503). -/
def execCLd (rd rs1 : CReg) (uimm : BitVec 8) (s : State) : Result :=
  s.gate (.cLd rd rs1 uimm) (s.loadX 2 (creg rd) (s.ea (creg rs1) (s.zext uimm)) 8 (unsigned 64))

/-- `c.ldsp` (R528). As `ld rd, uimm(x2)`, length 2 (R500, R503). -/
def execCLdsp (rd : Reg) (uimm : BitVec 9) (s : State) : Result :=
  s.gate (.cLdsp rd uimm) (s.loadX 2 rd (s.ea 2 (s.zext uimm)) 8 (unsigned 64))

/-- `c.li` (R529). As `addi rd, x0, imm`, length 2 (R500, R503). -/
def execCLi (rd : Reg) (imm : BitVec 6) (s : State) : Result :=
  s.gate (.cLi rd imm) (s.opImm 2 rd 0 (s.sext imm) Alu.add)

/-- `c.lui` (R530). As `lui rd, imm`, length 2 (R500, R503). -/
def execCLui (rd : Reg) (imm : BitVec 6) (s : State) : Result :=
  s.gate (.cLui rd imm) (s.result 2 rd (s.upper (imm.signExtend 20)))

/-- `c.lw` (R531). As `lw rd, uimm(rs1)`, length 2 (R500, R503). -/
def execCLw (rd rs1 : CReg) (uimm : BitVec 7) (s : State) : Result :=
  s.gate (.cLw rd rs1 uimm) (s.loadX 2 (creg rd) (s.ea (creg rs1) (s.zext uimm)) 4 (signed 32))

/-- `c.lwsp` (R532). As `lw rd, uimm(x2)`, length 2 (R500, R503). -/
def execCLwsp (rd : Reg) (uimm : BitVec 8) (s : State) : Result :=
  s.gate (.cLwsp rd uimm) (s.loadX 2 rd (s.ea 2 (s.zext uimm)) 4 (signed 32))

/-- `c.mv` (R533). As `add rd, x0, rs2`, length 2 (R500, R503). -/
def execCMv (rd rs2 : Reg) (s : State) : Result :=
  s.gate (.cMv rd rs2) (s.opReg 2 rd 0 rs2 Alu.add)

/-- `c.or` (R534). As `or rd, rd, rs2`, length 2 (R500, R503). -/
def execCOr (rd rs2 : CReg) (s : State) : Result :=
  s.gate (.cOr rd rs2) (s.opReg 2 (creg rd) (creg rd) (creg rs2) Alu.or)

/-- `c.sd` (R535). As `sd rs2, uimm(rs1)`, length 2 (R500, R503). -/
def execCSd (rs2 rs1 : CReg) (uimm : BitVec 8) (s : State) : Result :=
  s.gate (.cSd rs2 rs1 uimm) (s.storeV 2 (s.ea (creg rs1) (s.zext uimm)) 8 (s.getX (creg rs2)))

/-- `c.sdsp` (R536). As `sd rs2, uimm(x2)`, length 2 (R500, R503). -/
def execCSdsp (rs2 : Reg) (uimm : BitVec 9) (s : State) : Result :=
  s.gate (.cSdsp rs2 uimm) (s.storeV 2 (s.ea 2 (s.zext uimm)) 8 (s.getX rs2))

/-- `c.slli` (R537). As `slli rd, rd, shamt`, length 2 (R500, R503). -/
def execCSlli (rd : Reg) (shamt : BitVec 6) (s : State) : Result :=
  s.gate (.cSlli rd shamt) (s.opImm 2 rd rd (shamt.setWidth 64) Alu.sll)

/-- `c.srai` (R538). As `srai rd, rd, shamt`, length 2 (R500, R503). -/
def execCSrai (rd : CReg) (shamt : BitVec 6) (s : State) : Result :=
  s.gate (.cSrai rd shamt) (s.opImm 2 (creg rd) (creg rd) (shamt.setWidth 64) Alu.sra)

/-- `c.srli` (R539). As `srli rd, rd, shamt`, length 2 (R500, R503). -/
def execCSrli (rd : CReg) (shamt : BitVec 6) (s : State) : Result :=
  s.gate (.cSrli rd shamt) (s.opImm 2 (creg rd) (creg rd) (shamt.setWidth 64) Alu.srl)

/-- `c.sub` (R540). As `sub rd, rd, rs2`, length 2 (R500, R503). -/
def execCSub (rd rs2 : CReg) (s : State) : Result :=
  s.gate (.cSub rd rs2) (s.opReg 2 (creg rd) (creg rd) (creg rs2) Alu.sub)

/-- `c.subw` (R541). As `subw rd, rd, rs2`, length 2 (R500, R503). -/
def execCSubw (rd rs2 : CReg) (s : State) : Result :=
  s.gate (.cSubw rd rs2) (s.opRegW 2 (creg rd) (creg rd) (creg rs2) Alu.sub)

/-- `c.sw` (R542). As `sw rs2, uimm(rs1)`, length 2 (R500, R503). -/
def execCSw (rs2 rs1 : CReg) (uimm : BitVec 7) (s : State) : Result :=
  s.gate (.cSw rs2 rs1 uimm) (s.storeV 2 (s.ea (creg rs1) (s.zext uimm)) 4 (s.getX (creg rs2)))

/-- `c.swsp` (R543). As `sw rs2, uimm(x2)`, length 2 (R500, R503). -/
def execCSwsp (rs2 : Reg) (uimm : BitVec 8) (s : State) : Result :=
  s.gate (.cSwsp rs2 uimm) (s.storeV 2 (s.ea 2 (s.zext uimm)) 4 (s.getX rs2))

/-- `c.xor` (R544). As `xor rd, rd, rs2`, length 2 (R500, R503). -/
def execCXor (rd rs2 : CReg) (s : State) : Result :=
  s.gate (.cXor rd rs2) (s.opReg 2 (creg rd) (creg rd) (creg rs2) Alu.xor)

end Sys2Proof.Machine
end

