-- ==== Sys2Proof/Machine/Control.lean ====
section
/-!
DEFINITION. Sys2Proof/Machine/Control.lean: the meanings of control transfer (R260 to R268).
-/
namespace Sys2Proof.Machine

open Sys2Proof

/-- `beq` (R261). -/
def execBeq (rs1 rs2 : Reg) (offset : BitVec 13) (s : State) : Result :=
  s.gate (.beq rs1 rs2 offset) (s.branch 4 (s.compare Alu.eq (s.getX rs1) (s.getX rs2)) offset)

/-- `bge` (R262). -/
def execBge (rs1 rs2 : Reg) (offset : BitVec 13) (s : State) : Result :=
  s.gate (.bge rs1 rs2 offset) (s.branch 4 (s.compare Alu.ge (s.getX rs1) (s.getX rs2)) offset)

/-- `bgeu` (R263). -/
def execBgeu (rs1 rs2 : Reg) (offset : BitVec 13) (s : State) : Result :=
  s.gate (.bgeu rs1 rs2 offset) (s.branch 4 (s.compare Alu.geu (s.getX rs1) (s.getX rs2)) offset)

/-- `blt` (R264). -/
def execBlt (rs1 rs2 : Reg) (offset : BitVec 13) (s : State) : Result :=
  s.gate (.blt rs1 rs2 offset) (s.branch 4 (s.compare Alu.lt (s.getX rs1) (s.getX rs2)) offset)

/-- `bltu` (R265). -/
def execBltu (rs1 rs2 : Reg) (offset : BitVec 13) (s : State) : Result :=
  s.gate (.bltu rs1 rs2 offset) (s.branch 4 (s.compare Alu.ltu (s.getX rs1) (s.getX rs2)) offset)

/-- `bne` (R266). -/
def execBne (rs1 rs2 : Reg) (offset : BitVec 13) (s : State) : Result :=
  s.gate (.bne rs1 rs2 offset) (s.branch 4 (s.compare Alu.ne (s.getX rs1) (s.getX rs2)) offset)

/-- `jal` (R267). -/
def execJal (rd : Reg) (offset : BitVec 21) (s : State) : Result :=
  s.gate (.jal rd offset) (s.jumpLink 4 rd (s.norm (s.pc + s.sext offset)))

/-- `jalr` (R268). -/
def execJalr (rd rs1 : Reg) (offset : BitVec 12) (s : State) : Result :=
  s.gate (.jalr rd rs1 offset) (s.jumpLink 4 rd (s.indirect rs1 (s.sext offset)))

end Sys2Proof.Machine
end

