-- ==== Sys2Proof/Machine/Csr.lean ====
section
/-!
DEFINITION. Sys2Proof/Machine/Csr.lean: the control and status registers: which there are, who may touch them, what a
read gives and what a write changes (R30, R32 to R39).
-/
namespace Sys2Proof.Machine

open Sys2Proof

/-- The registers of R33. -/
inductive Csr where
  | fflags | frm | fcsr
  | cycle | time | instret | cycleh | timeh | instreth
  | sstatus | sie | stvec | scounteren | sscratch | sepc | scause | stval | sip | satp
  | mstatus | misa | medeleg | mideleg | mie | mtvec | mcounteren
  | mscratch | mepc | mcause | mtval | mip
  | mcycle | minstret | mcycleh | minstreth
  | mvendorid | marchid | mimpid | mhartid
deriving DecidableEq, Repr

/-- The number of a register (R33). -/
def Csr.number : Csr → BitVec 12
  | .fflags => 0x001 | .frm => 0x002 | .fcsr => 0x003
  | .cycle => 0xC00 | .time => 0xC01 | .instret => 0xC02
  | .cycleh => 0xC80 | .timeh => 0xC81 | .instreth => 0xC82
  | .sstatus => 0x100 | .sie => 0x104 | .stvec => 0x105 | .scounteren => 0x106
  | .sscratch => 0x140 | .sepc => 0x141 | .scause => 0x142 | .stval => 0x143 | .sip => 0x144
  | .satp => 0x180
  | .mstatus => 0x300 | .misa => 0x301 | .medeleg => 0x302 | .mideleg => 0x303
  | .mie => 0x304 | .mtvec => 0x305 | .mcounteren => 0x306
  | .mscratch => 0x340 | .mepc => 0x341 | .mcause => 0x342 | .mtval => 0x343 | .mip => 0x344
  | .mcycle => 0xB00 | .minstret => 0xB02 | .mcycleh => 0xB80 | .minstreth => 0xB82
  | .mvendorid => 0xF11 | .marchid => 0xF12 | .mimpid => 0xF13 | .mhartid => 0xF14

/-- The rows of R33, in its order. -/
def Csr.all : List Csr :=
  [.fflags, .frm, .fcsr, .cycle, .time, .instret, .cycleh, .timeh, .instreth,
   .sstatus, .sie, .stvec, .scounteren, .sscratch, .sepc, .scause, .stval, .sip, .satp,
   .mstatus, .misa, .medeleg, .mideleg, .mie, .mtvec, .mcounteren,
   .mscratch, .mepc, .mcause, .mtval, .mip,
   .mcycle, .minstret, .mcycleh, .minstreth,
   .mvendorid, .marchid, .mimpid, .mhartid]

/-- The register a number names, if R33 has it. -/
def Csr.ofNumber (n : BitVec 12) : Option Csr := Csr.all.find? (fun c => c.number == n)

/-- The "exists" column of R33. -/
def Params.hasCsr (p : Params) : Csr → Bool
  | .fflags | .frm | .fcsr => p.extF
  | .cycleh | .timeh | .instreth | .mcycleh | .minstreth => p.xlen == .rv32
  | .sstatus | .sie | .stvec | .scounteren | .sscratch | .sepc | .scause | .stval | .sip | .satp
  | .medeleg | .mideleg => p.hasS
  | .mcounteren => p.hasU
  | .cycle | .time | .instret
  | .mstatus | .misa | .mie | .mtvec | .mscratch | .mepc | .mcause | .mtval | .mip
  | .mcycle | .minstret | .mvendorid | .marchid | .mimpid | .mhartid => true

/-- May a counter be read in the current mode (R37)? Bit k of mcounteren below M-mode, of scounteren too in U-mode. -/
def State.counterOn (s : State) (k : Nat) : Bool :=
  match s.priv with
  | .machine => true
  | .supervisor => s.mcounteren.getLsbD k
  | .user => s.mcounteren.getLsbD k && (!s.cfg.hasS || s.scounteren.getLsbD k)

/-- The further condition of a register's own rule (R32): FS for the floating-point CSRs, the enables for the
counters, TVM for satp. -/
def State.csrOwnCheck (s : State) : Csr → Bool
  | .fflags | .frm | .fcsr => s.fpOn
  | .cycle | .cycleh => s.counterOn 0
  | .time | .timeh => s.counterOn 1
  | .instret | .instreth => s.counterOn 2
  | .satp => !(s.priv == .supervisor && s.mstatus.tvm)
  | .sstatus | .sie | .stvec | .scounteren | .sscratch | .sepc | .scause | .stval | .sip
  | .mstatus | .misa | .medeleg | .mideleg | .mie | .mtvec | .mcounteren
  | .mscratch | .mepc | .mcause | .mtval | .mip
  | .mcycle | .minstret | .mcycleh | .minstreth
  | .mvendorid | .marchid | .mimpid | .mhartid => true

/-- May the current mode use the number, to write it when `writes` (R32: `csr[9:8]`, `csr[11:10]`)? -/
def State.csrNumberCheck (s : State) (n : BitVec 12) (writes : Bool) : Bool :=
  decide ((bits n 8 2).toNat ≤ Priv.level s.priv) && !(writes && bits n 10 2 == 3#2)

/-- The register an instruction may access, or none: IllegalInstruction (R32). -/
def State.csrAccess (s : State) (n : BitVec 12) (writes : Bool) : Option Csr :=
  match Csr.ofNumber n with
  | none => none
  | some c => if Params.hasCsr s.cfg c && s.csrNumberCheck n writes && s.csrOwnCheck c then some c else none

/-! ## Views -/

/-- A bit at a position. -/
def bitAt (b : Bool) (k : Nat) : Word := if b then 1#64 <<< k else 0

/-- Does the mode exist (R40, R659)? -/
def Params.hasMode (p : Params) : Priv → Bool
  | .user => p.hasU
  | .supervisor => p.hasS
  | .machine => true

/-- The mode a 2-bit value names; 2 names none (R34, R40). -/
def Priv.ofBits (v : BitVec 2) : Option Priv :=
  match v with
  | 0b00#2 => some .user
  | 0b01#2 => some .supervisor
  | 0b11#2 => some .machine
  | _ => none

/-- mstatus.FS as it reads: 0 without F (R34). -/
def State.fsField (s : State) : BitVec 2 := if s.cfg.extF then s.mstatus.fs else 0

/-- The bits mstatus and sstatus share: SIE, SPIE, SPP, FS and SD (R34, R36). -/
def State.sharedStatus (s : State) : Word :=
  bitAt (s.cfg.hasS && s.mstatus.sie) 1 ||| bitAt (s.cfg.hasS && s.mstatus.spie) 5 |||
  bitAt (s.cfg.hasS && s.mstatus.spp) 8 ||| (s.fsField.setWidth 64) <<< 13 |||
  bitAt (s.fsField == 3) (s.cfg.xlen.bits - 1)

/-- UXL and SXL, bits 33:32 and 35:34 on XLEN = 64: 2 when the mode exists (R34). -/
def State.uxl (s : State) : Word := bitAt (s.cfg.xlen == .rv64 && s.cfg.hasU) 33
def State.sxl (s : State) : Word := bitAt (s.cfg.xlen == .rv64 && s.cfg.hasS) 35

/-- mstatus as it reads (R34). -/
def State.readMstatus (s : State) : Word :=
  s.sharedStatus ||| s.uxl ||| s.sxl ||| bitAt s.mstatus.mie 3 ||| bitAt s.mstatus.mpie 7 |||
  (BitVec.ofNat 64 (Priv.level s.mstatus.mpp)) <<< 11 |||
  bitAt (s.cfg.hasS && s.mstatus.tvm) 20 ||| bitAt (s.cfg.hasU && s.mstatus.tw) 21 |||
  bitAt (s.cfg.hasS && s.mstatus.tsr) 22

/-- sstatus as it reads (R36). -/
def State.readSstatus (s : State) : Word := s.sharedStatus ||| s.uxl

/-- What a write to sstatus changes of mstatus: SIE, SPIE, SPP, FS (R36). -/
def State.writeShared (s : State) (v : Word) : Mstatus :=
  { s.mstatus with
    sie := if s.cfg.hasS then v.getLsbD 1 else s.mstatus.sie
    spie := if s.cfg.hasS then v.getLsbD 5 else s.mstatus.spie
    spp := if s.cfg.hasS then v.getLsbD 8 else s.mstatus.spp
    fs := if s.cfg.extF then bits v 13 2 else s.mstatus.fs }

/-- MPP after a write: the mode the value names if there is one, else unchanged (R34). -/
def State.writeMpp (s : State) (v : Word) : Priv :=
  match Priv.ofBits (bits v 11 2) with
  | some p => if Params.hasMode s.cfg p then p else s.mstatus.mpp
  | none => s.mstatus.mpp

/-- What a write to mstatus changes (R34). -/
def State.writeMstatus (s : State) (v : Word) : Mstatus :=
  { s.writeShared v with
    mie := v.getLsbD 3
    mpie := v.getLsbD 7
    mpp := s.writeMpp v
    tvm := if s.cfg.hasS then v.getLsbD 20 else s.mstatus.tvm
    tw := if s.cfg.hasU then v.getLsbD 21 else s.mstatus.tw
    tsr := if s.cfg.hasS then v.getLsbD 22 else s.mstatus.tsr }

/-- misa (R38). -/
def State.readMisa (s : State) : Word :=
  (match s.cfg.xlen with | .rv32 => 1#64 <<< 30 | .rv64 => 2#64 <<< 62) |||
  bitAt s.cfg.extA 0 ||| bitAt s.cfg.extC 2 ||| bitAt s.cfg.extD 3 ||| bitAt s.cfg.extF 5 ||| bitAt true 8 |||
  bitAt s.cfg.extM 12 ||| bitAt s.cfg.hasS 18 ||| bitAt s.cfg.hasU 20

/-- The supervisor bits 1, 5 and 9 of mie (R38, R39); 0 without S. -/
def State.readSie (s : State) : Word :=
  bitAt (s.cfg.hasS && s.mie.ssi) 1 ||| bitAt (s.cfg.hasS && s.mie.sti) 5 ||| bitAt (s.cfg.hasS && s.mie.sei) 9

/-- mie as it reads (R38). -/
def State.readMie (s : State) : Word :=
  s.readSie ||| bitAt s.mie.msi 3 ||| bitAt s.mie.mti 7 ||| bitAt s.mie.mei 11

/-- What a write to sie changes of mie (R39). -/
def State.writeSie (s : State) (v : Word) : Mie :=
  { s.mie with
    ssi := if s.cfg.hasS then v.getLsbD 1 else s.mie.ssi
    sti := if s.cfg.hasS then v.getLsbD 5 else s.mie.sti
    sei := if s.cfg.hasS then v.getLsbD 9 else s.mie.sei }

/-- What a write to mie changes (R38). -/
def State.writeMie (s : State) (v : Word) : Mie :=
  { s.writeSie v with msi := v.getLsbD 3, mti := v.getLsbD 7, mei := v.getLsbD 11 }

/-- IRQ is not empty: some line exists (R6 k, R648). -/
def Params.hasIrq (p : Params) : Bool := p.irqMSI || p.irqMTI || p.irqMEI

/-- Does mip have its software bits? With S (R38, R648), but not with IRQ empty, when mip reads 0 forever (R42, D18). That
R42 and D18 hold there over R38, R39 and R648, which name writers of these bits, is DEDUCED, log 38. -/
def Params.hasSoftPending (p : Params) : Bool := p.hasS && Params.hasIrq p

/-- The software bits of mip (R38, R39, R42); 0 without them. SEIP has no line (log 23). -/
def State.readSip (s : State) : Word :=
  let soft := Params.hasSoftPending s.cfg
  bitAt (soft && s.mip.ssip) 1 ||| bitAt (soft && s.mip.stip) 5 ||| bitAt (soft && s.mip.seip) 9

/-- mip as it reads: the software bits, and in bits 3, 7 and 11 the images of the lines IRQ names (R38, R42, R648); 0 with
IRQ empty. -/
def State.readMip (s : State) : Word :=
  s.readSip ||| bitAt (s.cfg.irqMSI && s.lines.msi) 3 ||| bitAt (s.cfg.irqMTI && s.lines.mti) 7 |||
  bitAt (s.cfg.irqMEI && s.lines.mei) 11

/-- What a write to sip changes: SSIP (R39), where it exists. -/
def State.writeSip (s : State) (v : Word) : SoftPending :=
  { s.mip with ssip := if Params.hasSoftPending s.cfg then v.getLsbD 1 else s.mip.ssip }

/-- What a write to mip changes: SSIP, STIP and SEIP (R38), where they exist. -/
def State.writeMip (s : State) (v : Word) : SoftPending :=
  { s.writeSip v with
    stip := if Params.hasSoftPending s.cfg then v.getLsbD 5 else s.mip.stip
    seip := if Params.hasSoftPending s.cfg then v.getLsbD 9 else s.mip.seip }

/-- A trap vector after a write: a MODE of 2 or 3 leaves MODE unchanged (R38, R39). -/
def State.writeTvec (s : State) (old v : Word) : Word :=
  s.norm (if v.getLsbD 1 then (v &&& ~~~ 3#64) ||| (old &&& 3#64) else v)

/-- Bits 63:32 of a counter, as an h register reads them (R37). -/
def upperHalf (c : BitVec 64) : Word := (bits c 32 32).setWidth 64

/-- A counter after a write to its low register: all of it, or bits 31:0 on XLEN = 32 (R37). -/
def State.writeCounter (s : State) (c v : BitVec 64) : BitVec 64 :=
  match s.cfg.xlen with
  | .rv32 => bits c 32 32 ++ bits v 0 32
  | .rv64 => v

/-- A counter after a write to its h register. -/
def writeCounterHigh (c v : BitVec 64) : BitVec 64 := bits v 0 32 ++ bits c 0 32

/-! ## Reading and writing -/

/-- `CSRRead` after its checks (R32). -/
def State.csrRead (s : State) : Csr → Word
  | .fflags => s.fflags.setWidth 64
  | .frm => s.frm.setWidth 64
  | .fcsr => (s.frm ++ s.fflags).setWidth 64
  | .cycle | .mcycle => s.norm s.mcycle
  | .time => s.norm s.mtime
  | .instret | .minstret => s.norm s.minstret
  | .cycleh | .mcycleh => upperHalf s.mcycle
  | .timeh => upperHalf s.mtime
  | .instreth | .minstreth => upperHalf s.minstret
  | .sstatus => s.readSstatus
  | .sie => s.readSie
  | .stvec => s.norm s.stvec
  | .scounteren => s.scounteren.setWidth 64
  | .sscratch => s.norm s.sscratch
  | .sepc => s.epcOf s.sepc
  | .scause => s.norm s.scause
  | .stval => s.norm s.stval
  | .sip => s.readSip
  | .satp => 0
  | .mstatus => s.readMstatus
  | .misa => s.readMisa
  | .medeleg | .mideleg => 0
  | .mie => s.readMie
  | .mtvec => s.norm s.mtvec
  | .mcounteren => s.mcounteren.setWidth 64
  | .mscratch => s.norm s.mscratch
  | .mepc => s.epcOf s.mepc
  | .mcause => s.norm s.mcause
  | .mtval => s.norm s.mtval
  | .mip => s.readMip
  | .mvendorid | .marchid | .mimpid => 0
  | .mhartid => s.norm s.cfg.hartId

/-- `CSRWrite` after its checks (R32): the writable fields take their bits, the others keep theirs. -/
def State.csrWrite (s : State) (c : Csr) (v : Word) : State :=
  match c with
  | .fflags => { s.dirty with fflags := bits v 0 5 }
  | .frm => { s.dirty with frm := bits v 0 3 }
  | .fcsr => { s.dirty with fflags := bits v 0 5, frm := bits v 5 3 }
  | .sstatus => { s with mstatus := s.writeShared v }
  | .sie => { s with mie := s.writeSie v }
  | .stvec => { s with stvec := s.writeTvec s.stvec v }
  | .scounteren => { s with scounteren := bits v 0 3 }
  | .sscratch => { s with sscratch := s.norm v }
  | .sepc => { s with sepc := s.epcOf v }
  | .scause => { s with scause := s.norm v }
  | .stval => { s with stval := s.norm v }
  | .sip => { s with mip := s.writeSip v }
  | .mstatus => { s with mstatus := s.writeMstatus v }
  | .mie => { s with mie := s.writeMie v }
  | .mtvec => { s with mtvec := s.writeTvec s.mtvec v }
  | .mcounteren => { s with mcounteren := bits v 0 3 }
  | .mscratch => { s with mscratch := s.norm v }
  | .mepc => { s with mepc := s.epcOf v }
  | .mcause => { s with mcause := s.norm v }
  | .mtval => { s with mtval := s.norm v }
  | .mip => { s with mip := s.writeMip v }
  | .mcycle => { s with mcycle := s.writeCounter s.mcycle v }
  | .minstret => { s with minstret := s.writeCounter s.minstret v }
  | .mcycleh => { s with mcycle := writeCounterHigh s.mcycle v }
  | .minstreth => { s with minstret := writeCounterHigh s.minstret v }
  | .misa | .medeleg | .mideleg | .satp => s
  | .cycle | .time | .instret | .cycleh | .timeh | .instreth => s
  | .mvendorid | .marchid | .mimpid | .mhartid => s

/-- Does a write to this register leave the written value, without the increment for the instruction itself (R37;
minstreth: log 17)? -/
def Csr.isInstret : Csr → Bool
  | .minstret => true
  | .minstreth => true
  | _ => false

/-- The end of a CSR instruction: retired, but for the count a write to minstret replaces (R37). -/
def State.csrFinish (s : State) (c : Csr) (wrote : Bool) : Result :=
  let t := s.advance 4
  .next (if wrote && c.isInstret then t else t.retire)

/-- The CSR instructions (R310): read, write `f` of the value read when `writes`, the value read to x[rd]. -/
def State.csrOp (s : State) (i : Instr) (rd : Reg) (n : BitVec 12) (writes : Bool) (f : Word → Word) : Result :=
  match s.csrAccess n writes with
  | none => s.illegal i
  | some c =>
    let t := s.csrRead c
    ((if writes then s.csrWrite c (f t) else s).setX rd t).csrFinish c writes

/-! ## Interrupts (R648, R649) -/

/-- Bits of mip and mie: pending and locally enabled (R649). -/
def State.enabledPending (s : State) : Word := s.readMip &&& s.readMie

/-- Are interrupts globally enabled (R649)? -/
def State.interruptsOn (s : State) : Bool :=
  match s.priv with
  | .machine => s.mstatus.mie
  | .supervisor => true
  | .user => true

/-- The codes in the order of R649: MEI, MSI, MTI, SEI, SSI, STI. -/
def interruptOrder : List Nat := [11, 3, 7, 9, 1, 5]

/-- The interrupt the next step takes, if it takes one (R649). -/
def State.interruptTaken (s : State) : Option Nat :=
  if s.interruptsOn then interruptOrder.find? (fun c => s.enabledPending.getLsbD c) else none

/-- The levels of the lines at this step (R648, log 14). -/
def State.sampleLines (s : State) : State :=
  match s.cfg.lineChoice with
  | .pinned => s
  | .free =>
    { s with lines := ⟨Config.lineMSI s.drawIndex, Config.lineMTI s.drawIndex, Config.lineMEI s.drawIndex⟩ }

end Sys2Proof.Machine
end

