-- ==== Sys2Proof/Machine/Float.lean ====
section
/-!
DEFINITION. Sys2Proof/Machine/Float.lean: the numeric functions of R401, IEEE 754-2008 with the choices R401 lists.

A bit pattern is read as a NaN, an infinity, or the exact value (-1)^neg * m * 2^e; the operation is done exactly on
natural numbers and integers; the exact result is rounded once. A quotient and a root, which need not be dyadic, are
taken to more bits than any rounding looks at, with a last bit that says whether anything was cut off.
-/
namespace Sys2Proof.Machine.Fp

open Sys2Proof

/-- A binary format: the widths of its exponent and fraction fields (R400). -/
structure Format where
  expBits : Nat
  fracBits : Nat
deriving DecidableEq, Repr

/-- Single and double precision (R400). -/
def single : Format := ⟨8, 23⟩
def double : Format := ⟨11, 52⟩

/-- The number of significant bits. -/
def Format.prec (F : Format) : Nat := F.fracBits + 1

/-- The exponent field of infinities and NaNs. -/
def Format.expMax (F : Format) : Nat := 2 ^ F.expBits - 1

/-- The exponent of the last fraction bit of a subnormal number: 1 - bias - fracBits. -/
def Format.minExp (F : Format) : Int := 2 - 2 ^ (F.expBits - 1) - F.fracBits

/-- The pattern of +infinity; the patterns below it are the finite magnitudes. -/
def Format.infPattern (F : Format) : Nat := F.expMax * 2 ^ F.fracBits

/-- The sign bit as a number. -/
def Format.signBit (F : Format) : Nat := 2 ^ (F.expBits + F.fracBits)

/-- The canonical NaN (R400, R401 b). -/
def Format.nan (F : Format) : Nat := F.infPattern + 2 ^ (F.fracBits - 1)

/-- A pattern with a sign. -/
def Format.withSign (F : Format) (neg : Bool) (magnitude : Nat) : Nat :=
  (if neg then F.signBit else 0) + magnitude

/-- What a pattern stands for: the value of `fin neg m e` is (-1)^neg * m * 2^e. -/
inductive Value where
  | nan (signaling : Bool)
  | inf (neg : Bool)
  | fin (neg : Bool) (m : Nat) (e : Int)
deriving DecidableEq, Repr

/-- Read a pattern (R400). -/
def unpack (F : Format) (v : Nat) : Value :=
  let frac := v % 2 ^ F.fracBits
  let ex := v / 2 ^ F.fracBits % 2 ^ F.expBits
  let neg := v / F.signBit % 2 == 1
  if ex = F.expMax then
    if frac = 0 then .inf neg else .nan (decide (frac < 2 ^ (F.fracBits - 1)))
  else if ex = 0 then .fin neg frac F.minExp
  else .fin neg (frac + 2 ^ F.fracBits) (F.minExp + (ex - 1 : Nat))

def Value.isNan : Value → Bool
  | .nan _ => true
  | .inf _ => false
  | .fin _ _ _ => false

def Value.isSignaling : Value → Bool
  | .nan s => s
  | .inf _ => false
  | .fin _ _ _ => false

def Value.isZero : Value → Bool
  | .nan _ => false
  | .inf _ => false
  | .fin _ m _ => m == 0

/-- Does rounding add one to the kept bits, when `rest` of `2 * half` was cut off (R402)? -/
def roundsUp (rm : Rounding) (neg odd : Bool) (rest half : Nat) : Bool :=
  match rm with
  | .nearestEven => decide (half < rest) || (rest == half && odd)
  | .towardZero => false
  | .down => neg && rest != 0
  | .up => !neg && rest != 0
  | .nearestMax => decide (half ≤ rest)

/-- m with its low `shift` bits cut off by rounding, and whether anything was lost. -/
def cut (rm : Rounding) (neg : Bool) (m shift : Nat) : Nat × Bool :=
  if shift = 0 then (m, false)
  else
    let kept := m / 2 ^ shift
    let rest := m % 2 ^ shift
    (kept + (if roundsUp rm neg (kept % 2 == 1) rest (2 ^ (shift - 1)) then 1 else 0), rest != 0)

/-- m * 2^e as a multiple of 2^q, rounded. -/
def toScale (rm : Rounding) (neg : Bool) (m : Nat) (e q : Int) : Nat × Bool :=
  if q ≤ e then (m * 2 ^ (e - q).toNat, false) else cut rm neg m (q - e).toNat

/-- The result of an overflow: infinity or the largest finite value, by mode and sign (R401 c). -/
def overflowed (F : Format) (rm : Rounding) (neg : Bool) : Nat :=
  let toInf := match rm with
    | .nearestEven => true
    | .nearestMax => true
    | .towardZero => false
    | .down => neg
    | .up => !neg
  F.withSign neg (if toInf then F.infPattern else F.infPattern - 1)

/-- The exact value (-1)^neg * m * 2^e rounded to the format, with OF, UF and NX (R401 a, c). Tininess is judged
after rounding to the full precision with an unbounded exponent. -/
def round (F : Format) (rm : Rounding) (neg : Bool) (m : Nat) (e : Int) : Nat × BitVec 5 :=
  if m = 0 then (F.withSign neg 0, 0)
  else
    let free : Int := e + (Nat.log2 m + 1 : Nat) - F.prec
    let q := max free F.minExp
    let (kept, inexact) := toScale rm neg m e q
    let pattern := (q - F.minExp).toNat * 2 ^ F.fracBits + kept
    if F.infPattern ≤ pattern then (overflowed F rm neg, flagOF ||| flagNX)
    else
      let unbounded := (toScale rm neg m e free).1
      let tiny := decide (free < F.minExp) && !(free + 1 == F.minExp && unbounded == 2 ^ F.prec)
      (F.withSign neg pattern, flagIf inexact flagNX ||| flagIf (tiny && inexact) flagUF)

/-- The canonical NaN, with NV when an operand is signaling (R401 b, c). -/
def quiet (F : Format) (signaling : Bool) : Nat × BitVec 5 := (F.nan, flagIf signaling flagNV)

/-- The canonical NaN of an invalid operation (R401 c). -/
def invalid (F : Format) : Nat × BitVec 5 := (F.nan, flagNV)

def infinity (F : Format) (neg : Bool) : Nat × BitVec 5 := (F.withSign neg F.infPattern, 0)

/-- The exact sum of two finite values, rounded; an exact zero sum of operands of different signs is +0, or -0 when
rounding down (IEEE 754-2008). -/
def addFinite (F : Format) (rm : Rounding) (na : Bool) (ma : Nat) (ea : Int) (nb : Bool) (mb : Nat) (eb : Int) :
    Nat × BitVec 5 :=
  let e := min ea eb
  let ia : Int := (ma * 2 ^ (ea - e).toNat : Nat)
  let ib : Int := (mb * 2 ^ (eb - e).toNat : Nat)
  let sum := (if na then -ia else ia) + (if nb then -ib else ib)
  if sum = 0 then (F.withSign (if na = nb then na else rm == .down) 0, 0)
  else round F rm (decide (sum < 0)) sum.natAbs e

/-- `fp_add` (R401 a). -/
def add (F : Format) (rm : Rounding) (a b : Nat) : Nat × BitVec 5 :=
  match unpack F a, unpack F b with
  | .nan s, y => quiet F (s || y.isSignaling)
  | _, .nan s => quiet F s
  | .inf na, .inf nb => if na = nb then infinity F na else invalid F
  | .inf na, .fin _ _ _ => infinity F na
  | .fin _ _ _, .inf nb => infinity F nb
  | .fin na ma ea, .fin nb mb eb => addFinite F rm na ma ea nb mb eb

/-- The pattern with its sign changed. -/
def negate (F : Format) (a : Nat) : Nat := if a / F.signBit % 2 = 1 then a - F.signBit else a + F.signBit

/-- `fp_sub`: the sum with the second operand negated (R401 a). -/
def sub (F : Format) (rm : Rounding) (a b : Nat) : Nat × BitVec 5 := add F rm a (negate F b)

/-- `fp_mul` (R401 a). -/
def mul (F : Format) (rm : Rounding) (a b : Nat) : Nat × BitVec 5 :=
  match unpack F a, unpack F b with
  | .nan s, y => quiet F (s || y.isSignaling)
  | _, .nan s => quiet F s
  | .inf na, .inf nb => infinity F (na != nb)
  | .inf na, .fin nb mb _ => if mb = 0 then invalid F else infinity F (na != nb)
  | .fin na ma _, .inf nb => if ma = 0 then invalid F else infinity F (na != nb)
  | .fin na ma ea, .fin nb mb eb => round F rm (na != nb) (ma * mb) (ea + eb)

/-- How many bits a quotient is taken to beyond the precision: more than any rounding looks at. -/
def divShift (F : Format) (mb : Nat) : Nat := F.prec + 2 + (Nat.log2 mb + 1)

/-- `fp_div` (R401 a, c). -/
def div (F : Format) (rm : Rounding) (a b : Nat) : Nat × BitVec 5 :=
  match unpack F a, unpack F b with
  | .nan s, y => quiet F (s || y.isSignaling)
  | _, .nan s => quiet F s
  | .inf _, .inf _ => invalid F
  | .inf na, .fin nb _ _ => infinity F (na != nb)
  | .fin na _ _, .inf nb => (F.withSign (na != nb) 0, 0)
  | .fin na ma ea, .fin nb mb eb =>
    if mb = 0 then
      if ma = 0 then invalid F else (F.withSign (na != nb) F.infPattern, flagDZ)
    else
      let sh := divShift F mb
      let n := ma * 2 ^ sh
      round F rm (na != nb) (2 * (n / mb) + (if n % mb = 0 then 0 else 1)) (ea - eb - sh - 1)

/-- The integer part of the square root of n, given r, the root to its bits above the k lowest. -/
def rootFrom (n : Nat) : Nat → Nat → Nat
  | 0, r => r
  | k + 1, r => rootFrom n k (if (r + 2 ^ k) * (r + 2 ^ k) ≤ n then r + 2 ^ k else r)

/-- The integer part of the square root of n < 4^k. -/
def root (k n : Nat) : Nat := rootFrom n k 0

/-- `fp_sqrt` (R401 a, c). -/
def sqrt (F : Format) (rm : Rounding) (a : Nat) : Nat × BitVec 5 :=
  match unpack F a with
  | .nan s => quiet F s
  | .inf neg => if neg then invalid F else infinity F false
  | .fin neg m e =>
    if m = 0 then (F.withSign neg 0, 0)
    else if neg then invalid F
    else
      let sh := 2 * F.prec + 4 + (if e % 2 = 0 then 0 else 1)
      let n := m * 2 ^ sh
      let r := root (2 * F.prec + 3) n
      round F rm false (2 * r + (if r * r = n then 0 else 1)) ((e - sh) / 2 - 1)

/-- `fp_fma(RM, a, b, c)`: a * b + c rounded once (R401 a, c). -/
def fma (F : Format) (rm : Rounding) (a b c : Nat) : Nat × BitVec 5 :=
  let va := unpack F a
  let vb := unpack F b
  let vc := unpack F c
  let infTimesZero := match va, vb with
    | .inf _, .fin _ m _ => m == 0
    | .fin _ m _, .inf _ => m == 0
    | _, _ => false
  if infTimesZero then invalid F
  else if va.isNan || vb.isNan || vc.isNan then quiet F (va.isSignaling || vb.isSignaling || vc.isSignaling)
  else
    match va, vb, vc with
    | .fin na ma ea, .fin nb mb eb, .fin nc mc ec => addFinite F rm (na != nb) (ma * mb) (ea + eb) nc mc ec
    | .fin _ _ _, .fin _ _ _, .inf nc => infinity F nc
    | .inf na, .inf nb, .inf nc => if (na != nb) = nc then infinity F nc else invalid F
    | .inf na, .fin nb _ _, .inf nc => if (na != nb) = nc then infinity F nc else invalid F
    | .fin na _ _, .inf nb, .inf nc => if (na != nb) = nc then infinity F nc else invalid F
    | .inf na, .inf nb, _ => infinity F (na != nb)
    | .inf na, .fin nb _ _, _ => infinity F (na != nb)
    | .fin na _ _, .inf nb, _ => infinity F (na != nb)
    | _, _, _ => invalid F

/-- The order of the values that are no NaN, as integers: -0 and +0 both 0. -/
def key (F : Format) (a : Nat) : Int :=
  let magnitude : Int := (a % F.signBit : Nat)
  if a / F.signBit % 2 = 1 then -magnitude else magnitude

/-- Is either operand a NaN, or a signaling one? -/
def anyNan (F : Format) (a b : Nat) : Bool := (unpack F a).isNan || (unpack F b).isNan
def anySignaling (F : Format) (a b : Nat) : Bool := (unpack F a).isSignaling || (unpack F b).isSignaling

/-- Is a below b when -0 counts as below +0 (R401 d)? -/
def below (F : Format) (a b : Nat) : Bool :=
  decide (key F a < key F b) || (key F a == key F b && a / F.signBit % 2 == 1 && b / F.signBit % 2 == 0)

/-- The operand of `fp_min` and `fp_max` that is the result: the other one when one is a NaN, the canonical NaN when
both are (R401 d). -/
def select (F : Format) (first : Bool) (a b : Nat) : Nat × BitVec 5 :=
  let fl := flagIf (anySignaling F a b) flagNV
  if (unpack F a).isNan && (unpack F b).isNan then (F.nan, fl)
  else if (unpack F a).isNan then (b, fl)
  else if (unpack F b).isNan then (a, fl)
  else (if first then a else b, fl)

/-- `fp_min` and `fp_max` (R401 d). -/
def min (F : Format) (a b : Nat) : Nat × BitVec 5 := select F (!below F b a) a b
def max (F : Format) (a b : Nat) : Nat × BitVec 5 := select F (!below F a b) a b

/-- `fp_eq`, a quiet comparison (R401 e). -/
def eq (F : Format) (a b : Nat) : Bool × BitVec 5 :=
  (!anyNan F a b && key F a == key F b, flagIf (anySignaling F a b) flagNV)

/-- `fp_lt` and `fp_le`, signaling comparisons (R401 e). -/
def lt (F : Format) (a b : Nat) : Bool × BitVec 5 :=
  (!anyNan F a b && decide (key F a < key F b), flagIf (anyNan F a b) flagNV)

def le (F : Format) (a b : Nat) : Bool × BitVec 5 :=
  (!anyNan F a b && decide (key F a ≤ key F b), flagIf (anyNan F a b) flagNV)

/-- The least and the greatest integer of a signed or unsigned target (R401 f). -/
def intMin (signed : Bool) (width : Nat) : Int := if signed then -(2 ^ (width - 1)) else 0
def intMax (signed : Bool) (width : Nat) : Int := if signed then 2 ^ (width - 1) - 1 else 2 ^ width - 1

/-- `fp_to_int` (R401 f): the saturated value with NV, or the rounded one with NX when it differs. -/
def toInt (F : Format) (rm : Rounding) (a : Nat) (signed : Bool) (width : Nat) : Int × BitVec 5 :=
  match unpack F a with
  | .nan _ => (intMax signed width, flagNV)
  | .inf neg => (if neg then intMin signed width else intMax signed width, flagNV)
  | .fin neg m e =>
    let (magnitude, inexact) := toScale rm neg m e 0
    let v : Int := if neg then -(magnitude : Int) else magnitude
    if v < intMin signed width then (intMin signed width, flagNV)
    else if intMax signed width < v then (intMax signed width, flagNV)
    else (v, flagIf inexact flagNX)

/-- `int_to_fp` (R401 g). -/
def ofInt (F : Format) (rm : Rounding) (i : Int) : Nat × BitVec 5 := round F rm (decide (i < 0)) i.natAbs 0

/-- A conversion between formats (R401 h): exact to the wider one, rounded to the narrower one. -/
def convert (F G : Format) (rm : Rounding) (a : Nat) : Nat × BitVec 5 :=
  match unpack F a with
  | .nan s => quiet G s
  | .inf neg => infinity G neg
  | .fin neg m e => round G rm neg m e

/-- `classify` (R401 i, the table of R406): the one bit that is set. -/
def classify (F : Format) (a : Nat) : Nat :=
  match unpack F a with
  | .nan s => if s then 8 else 9
  | .inf neg => if neg then 0 else 7
  | .fin neg m _ =>
    if m = 0 then (if neg then 3 else 4)
    else if m < 2 ^ F.fracBits then (if neg then 2 else 5)
    else if neg then 1 else 6

end Sys2Proof.Machine.Fp

namespace Sys2Proof.Machine

open Sys2Proof

/-! ## The functions on bit patterns -/

/-- A single-precision pattern and flags, as bits. -/
def asS (r : Nat × BitVec 5) : BitVec 32 × BitVec 5 := (BitVec.ofNat 32 r.1, r.2)

/-- A double-precision pattern and flags, as bits. -/
def asD (r : Nat × BitVec 5) : BitVec 64 × BitVec 5 := (BitVec.ofNat 64 r.1, r.2)

/-- A truth value and flags, as the 0 or 1 that goes to x[rd]. -/
def asBit (r : Bool × BitVec 5) : Word × BitVec 5 := (if r.1 then 1 else 0, r.2)

/-- An integer of a conversion as the register value: 32-bit results sign-extended (R413, R414). -/
def asW (r : Int × BitVec 5) : Word × BitVec 5 := ((BitVec.ofInt 32 r.1).signExtend 64, r.2)
def asL (r : Int × BitVec 5) : Word × BitVec 5 := (BitVec.ofInt 64 r.1, r.2)

/-- The magnitude of a with another sign bit (R429 to R431, R478 to R480). -/
def withSignS (sign : Bool) (a : BitVec 32) : BitVec 32 := BitVec.ofBool sign ++ bits a 0 31
def withSignD (sign : Bool) (a : BitVec 64) : BitVec 64 := BitVec.ofBool sign ++ bits a 0 63

/-- The shapes of the floating-point instructions: what they read, the function, what they write. -/
def State.fpS1 (s : State) (rd rs1 : FReg) (g : Nat → Nat × BitVec 5) : Result :=
  s.resultS rd (asS (g (s.getS rs1).toNat))

def State.fpS2 (s : State) (rd rs1 rs2 : FReg) (g : Nat → Nat → Nat × BitVec 5) : Result :=
  s.resultS rd (asS (g (s.getS rs1).toNat (s.getS rs2).toNat))

def State.fpS3 (s : State) (rd rs1 rs2 rs3 : FReg) (g : Nat → Nat → Nat → Nat × BitVec 5) : Result :=
  s.resultS rd (asS (g (s.getS rs1).toNat (s.getS rs2).toNat (s.getS rs3).toNat))

def State.fpD1 (s : State) (rd rs1 : FReg) (g : Nat → Nat × BitVec 5) : Result :=
  s.resultD rd (asD (g (s.getF rs1).toNat))

def State.fpD2 (s : State) (rd rs1 rs2 : FReg) (g : Nat → Nat → Nat × BitVec 5) : Result :=
  s.resultD rd (asD (g (s.getF rs1).toNat (s.getF rs2).toNat))

def State.fpD3 (s : State) (rd rs1 rs2 rs3 : FReg) (g : Nat → Nat → Nat → Nat × BitVec 5) : Result :=
  s.resultD rd (asD (g (s.getF rs1).toNat (s.getF rs2).toNat (s.getF rs3).toNat))

def State.fpCmpS (s : State) (rd : Reg) (rs1 rs2 : FReg) (g : Nat → Nat → Bool × BitVec 5) : Result :=
  s.resultFlags rd (asBit (g (s.getS rs1).toNat (s.getS rs2).toNat))

def State.fpCmpD (s : State) (rd : Reg) (rs1 rs2 : FReg) (g : Nat → Nat → Bool × BitVec 5) : Result :=
  s.resultFlags rd (asBit (g (s.getF rs1).toNat (s.getF rs2).toNat))

/-- A copy of bits to an f register: no flag accrues, FS becomes Dirty (R404 c). -/
def State.moveS (s : State) (rd : FReg) (v : BitVec 32) : Result := (s.setS rd v).finish 4
def State.moveD (s : State) (rd : FReg) (v : BitVec 64) : Result := (s.setF rd v).finish 4

end Sys2Proof.Machine
end

