-- ==== Sys2Proof/Machine/Double.lean ====
section
/-!
DEFINITION. Sys2Proof/Machine/Double.lean: the meanings of the D extension (R450 to R482).
-/
namespace Sys2Proof.Machine

open Sys2Proof

/-- `fadd.d` (R451). -/
def execFaddD (rm : BitVec 3) (rd rs1 rs2 : FReg) (s : State) : Result :=
  s.gate (.faddD rm rd rs1 rs2)
    (s.rounded (.faddD rm rd rs1 rs2) rm (fun m => s.fpD2 rd rs1 rs2 (Fp.add Fp.double m)))

/-- `fclass.d` (R452). No flag, FS unchanged (R404 c). -/
def execFclassD (rd : Reg) (rs1 : FReg) (s : State) : Result :=
  s.gate (.fclassD rd rs1) (s.result 4 rd (bitAt true (Fp.classify Fp.double (s.getF rs1).toNat)))

/-- `fcvt.d.l` (R453). -/
def execFcvtDL (rm : BitVec 3) (rd : FReg) (rs1 : Reg) (s : State) : Result :=
  s.gate (.fcvtDL rm rd rs1)
    (s.rounded (.fcvtDL rm rd rs1) rm
    (fun m => s.resultD rd (asD (Fp.ofInt Fp.double m (s.getX rs1).toInt))))

/-- `fcvt.d.lu` (R454). -/
def execFcvtDLu (rm : BitVec 3) (rd : FReg) (rs1 : Reg) (s : State) : Result :=
  s.gate (.fcvtDLu rm rd rs1)
    (s.rounded (.fcvtDLu rm rd rs1) rm
    (fun m => s.resultD rd (asD (Fp.ofInt Fp.double m ((s.getX rs1).toNat : Int)))))

/-- `fcvt.d.s` (R455). -/
def execFcvtDS (rm : BitVec 3) (rd rs1 : FReg) (s : State) : Result :=
  s.gate (.fcvtDS rm rd rs1)
    (s.rounded (.fcvtDS rm rd rs1) rm
    (fun m => s.resultD rd (asD (Fp.convert Fp.single Fp.double m (s.getS rs1).toNat))))

/-- `fcvt.d.w` (R456). Always exact: no flag accrues. -/
def execFcvtDW (rm : BitVec 3) (rd : FReg) (rs1 : Reg) (s : State) : Result :=
  s.gate (.fcvtDW rm rd rs1)
    (s.rounded (.fcvtDW rm rd rs1) rm
    (fun m => s.moveD rd (asD (Fp.ofInt Fp.double m (bits (s.getX rs1) 0 32).toInt)).1))

/-- `fcvt.d.wu` (R457). Always exact: no flag accrues. -/
def execFcvtDWu (rm : BitVec 3) (rd : FReg) (rs1 : Reg) (s : State) : Result :=
  s.gate (.fcvtDWu rm rd rs1)
    (s.rounded (.fcvtDWu rm rd rs1) rm
    (fun m => s.moveD rd (asD (Fp.ofInt Fp.double m ((bits (s.getX rs1) 0 32).toNat : Int))).1))

/-- `fcvt.l.d` (R458). -/
def execFcvtLD (rm : BitVec 3) (rd : Reg) (rs1 : FReg) (s : State) : Result :=
  s.gate (.fcvtLD rm rd rs1)
    (s.rounded (.fcvtLD rm rd rs1) rm
    (fun m => s.resultFlags rd (asL (Fp.toInt Fp.double m (s.getF rs1).toNat true 64))))

/-- `fcvt.lu.d` (R459). -/
def execFcvtLuD (rm : BitVec 3) (rd : Reg) (rs1 : FReg) (s : State) : Result :=
  s.gate (.fcvtLuD rm rd rs1)
    (s.rounded (.fcvtLuD rm rd rs1) rm
    (fun m => s.resultFlags rd (asL (Fp.toInt Fp.double m (s.getF rs1).toNat false 64))))

/-- `fcvt.s.d` (R460). -/
def execFcvtSD (rm : BitVec 3) (rd rs1 : FReg) (s : State) : Result :=
  s.gate (.fcvtSD rm rd rs1)
    (s.rounded (.fcvtSD rm rd rs1) rm
    (fun m => s.resultS rd (asS (Fp.convert Fp.double Fp.single m (s.getF rs1).toNat))))

/-- `fcvt.w.d` (R461). -/
def execFcvtWD (rm : BitVec 3) (rd : Reg) (rs1 : FReg) (s : State) : Result :=
  s.gate (.fcvtWD rm rd rs1)
    (s.rounded (.fcvtWD rm rd rs1) rm
    (fun m => s.resultFlags rd (asW (Fp.toInt Fp.double m (s.getF rs1).toNat true 32))))

/-- `fcvt.wu.d` (R462). -/
def execFcvtWuD (rm : BitVec 3) (rd : Reg) (rs1 : FReg) (s : State) : Result :=
  s.gate (.fcvtWuD rm rd rs1)
    (s.rounded (.fcvtWuD rm rd rs1) rm
    (fun m => s.resultFlags rd (asW (Fp.toInt Fp.double m (s.getF rs1).toNat false 32))))

/-- `fdiv.d` (R463). -/
def execFdivD (rm : BitVec 3) (rd rs1 rs2 : FReg) (s : State) : Result :=
  s.gate (.fdivD rm rd rs1 rs2)
    (s.rounded (.fdivD rm rd rs1 rs2) rm (fun m => s.fpD2 rd rs1 rs2 (Fp.div Fp.double m)))

/-- `feq.d` (R464). -/
def execFeqD (rd : Reg) (rs1 rs2 : FReg) (s : State) : Result :=
  s.gate (.feqD rd rs1 rs2) (s.fpCmpD rd rs1 rs2 (Fp.eq Fp.double))

/-- `fld` (R465). -/
def execFld (rd : FReg) (rs1 : Reg) (offset : BitVec 12) (s : State) : Result :=
  s.gate (.fld rd rs1 offset) (s.loadD 4 rd (s.ea rs1 (s.sext offset)))

/-- `fle.d` (R466). -/
def execFleD (rd : Reg) (rs1 rs2 : FReg) (s : State) : Result :=
  s.gate (.fleD rd rs1 rs2) (s.fpCmpD rd rs1 rs2 (Fp.le Fp.double))

/-- `flt.d` (R467). -/
def execFltD (rd : Reg) (rs1 rs2 : FReg) (s : State) : Result :=
  s.gate (.fltD rd rs1 rs2) (s.fpCmpD rd rs1 rs2 (Fp.lt Fp.double))

/-- `fmadd.d` (R468). -/
def execFmaddD (rm : BitVec 3) (rd rs1 rs2 rs3 : FReg) (s : State) : Result :=
  s.gate (.fmaddD rm rd rs1 rs2 rs3)
    (s.rounded (.fmaddD rm rd rs1 rs2 rs3) rm
    (fun m => s.fpD3 rd rs1 rs2 rs3 (fun a b c => Fp.fma Fp.double m a b c)))

/-- `fmax.d` (R469). -/
def execFmaxD (rd rs1 rs2 : FReg) (s : State) : Result :=
  s.gate (.fmaxD rd rs1 rs2) (s.fpD2 rd rs1 rs2 (Fp.max Fp.double))

/-- `fmin.d` (R470). -/
def execFminD (rd rs1 rs2 : FReg) (s : State) : Result :=
  s.gate (.fminD rd rs1 rs2) (s.fpD2 rd rs1 rs2 (Fp.min Fp.double))

/-- `fmsub.d` (R471). -/
def execFmsubD (rm : BitVec 3) (rd rs1 rs2 rs3 : FReg) (s : State) : Result :=
  s.gate (.fmsubD rm rd rs1 rs2 rs3)
    (s.rounded (.fmsubD rm rd rs1 rs2 rs3) rm
    (fun m => s.fpD3 rd rs1 rs2 rs3 (fun a b c => Fp.fma Fp.double m a b (Fp.negate Fp.double c))))

/-- `fmul.d` (R472). -/
def execFmulD (rm : BitVec 3) (rd rs1 rs2 : FReg) (s : State) : Result :=
  s.gate (.fmulD rm rd rs1 rs2)
    (s.rounded (.fmulD rm rd rs1 rs2) rm (fun m => s.fpD2 rd rs1 rs2 (Fp.mul Fp.double m)))

/-- `fmv.d.x` (R473). -/
def execFmvDX (rd : FReg) (rs1 : Reg) (s : State) : Result :=
  s.gate (.fmvDX rd rs1) (s.moveD rd (s.getX rs1))

/-- `fmv.x.d` (R474). FS unchanged. -/
def execFmvXD (rd : Reg) (rs1 : FReg) (s : State) : Result :=
  s.gate (.fmvXD rd rs1) (s.result 4 rd (s.getF rs1))

/-- `fnmadd.d` (R475). -/
def execFnmaddD (rm : BitVec 3) (rd rs1 rs2 rs3 : FReg) (s : State) : Result :=
  s.gate (.fnmaddD rm rd rs1 rs2 rs3)
    (s.rounded (.fnmaddD rm rd rs1 rs2 rs3) rm
    (fun m => s.fpD3 rd rs1 rs2 rs3 (fun a b c => Fp.fma Fp.double m (Fp.negate Fp.double a) b (Fp.negate Fp.double c))))

/-- `fnmsub.d` (R476). -/
def execFnmsubD (rm : BitVec 3) (rd rs1 rs2 rs3 : FReg) (s : State) : Result :=
  s.gate (.fnmsubD rm rd rs1 rs2 rs3)
    (s.rounded (.fnmsubD rm rd rs1 rs2 rs3) rm
    (fun m => s.fpD3 rd rs1 rs2 rs3 (fun a b c => Fp.fma Fp.double m (Fp.negate Fp.double a) b c)))

/-- `fsd` (R477). FS unchanged. -/
def execFsd (rs2 : FReg) (rs1 : Reg) (offset : BitVec 12) (s : State) : Result :=
  s.gate (.fsd rs2 rs1 offset) (s.storeV 4 (s.ea rs1 (s.sext offset)) 8 (s.getF rs2))

/-- `fsgnj.d` (R478). -/
def execFsgnjD (rd rs1 rs2 : FReg) (s : State) : Result :=
  s.gate (.fsgnjD rd rs1 rs2) (s.moveD rd (withSignD ((s.getF rs2).getLsbD 63) (s.getF rs1)))

/-- `fsgnjn.d` (R479). -/
def execFsgnjnD (rd rs1 rs2 : FReg) (s : State) : Result :=
  s.gate (.fsgnjnD rd rs1 rs2) (s.moveD rd (withSignD (!(s.getF rs2).getLsbD 63) (s.getF rs1)))

/-- `fsgnjx.d` (R480). -/
def execFsgnjxD (rd rs1 rs2 : FReg) (s : State) : Result :=
  s.gate (.fsgnjxD rd rs1 rs2)
    (s.moveD rd (withSignD ((s.getF rs1).getLsbD 63 ^^ (s.getF rs2).getLsbD 63) (s.getF rs1)))

/-- `fsqrt.d` (R481). -/
def execFsqrtD (rm : BitVec 3) (rd rs1 : FReg) (s : State) : Result :=
  s.gate (.fsqrtD rm rd rs1) (s.rounded (.fsqrtD rm rd rs1) rm (fun m => s.fpD1 rd rs1 (Fp.sqrt Fp.double m)))

/-- `fsub.d` (R482). -/
def execFsubD (rm : BitVec 3) (rd rs1 rs2 : FReg) (s : State) : Result :=
  s.gate (.fsubD rm rd rs1 rs2)
    (s.rounded (.fsubD rm rd rs1 rs2) rm (fun m => s.fpD2 rd rs1 rs2 (Fp.sub Fp.double m)))

end Sys2Proof.Machine
end

