-- ==== Sys2Proof/Machine/Integer.lean ====
section
/-!
DEFINITION. Sys2Proof/Machine/Integer.lean: the meanings of integer computation (R200 to R230).
-/
namespace Sys2Proof.Machine

open Sys2Proof

/-- `add` (R201). -/
def execAdd (rd rs1 rs2 : Reg) (s : State) : Result :=
  s.gate (.add rd rs1 rs2) (s.opReg 4 rd rs1 rs2 Alu.add)

/-- `addi` (R202). -/
def execAddi (rd rs1 : Reg) (imm : BitVec 12) (s : State) : Result :=
  s.gate (.addi rd rs1 imm) (s.opImm 4 rd rs1 (s.sext imm) Alu.add)

/-- `addiw` (R203). -/
def execAddiw (rd rs1 : Reg) (imm : BitVec 12) (s : State) : Result :=
  s.gate (.addiw rd rs1 imm) (s.opImmW 4 rd rs1 (s.sext imm) Alu.add)

/-- `addw` (R204). -/
def execAddw (rd rs1 rs2 : Reg) (s : State) : Result :=
  s.gate (.addw rd rs1 rs2) (s.opRegW 4 rd rs1 rs2 Alu.add)

/-- `and` (R205). -/
def execAnd (rd rs1 rs2 : Reg) (s : State) : Result :=
  s.gate (.and rd rs1 rs2) (s.opReg 4 rd rs1 rs2 Alu.and)

/-- `andi` (R206). -/
def execAndi (rd rs1 : Reg) (imm : BitVec 12) (s : State) : Result :=
  s.gate (.andi rd rs1 imm) (s.opImm 4 rd rs1 (s.sext imm) Alu.and)

/-- `auipc` (R207). -/
def execAuipc (rd : Reg) (imm : BitVec 20) (s : State) : Result :=
  s.gate (.auipc rd imm) (s.result 4 rd (s.pc + s.upper imm))

/-- `lui` (R208). -/
def execLui (rd : Reg) (imm : BitVec 20) (s : State) : Result :=
  s.gate (.lui rd imm) (s.result 4 rd (s.upper imm))

/-- `or` (R209). -/
def execOr (rd rs1 rs2 : Reg) (s : State) : Result :=
  s.gate (.or rd rs1 rs2) (s.opReg 4 rd rs1 rs2 Alu.or)

/-- `ori` (R210). -/
def execOri (rd rs1 : Reg) (imm : BitVec 12) (s : State) : Result :=
  s.gate (.ori rd rs1 imm) (s.opImm 4 rd rs1 (s.sext imm) Alu.or)

/-- `sll` (R211). -/
def execSll (rd rs1 rs2 : Reg) (s : State) : Result :=
  s.gate (.sll rd rs1 rs2) (s.opReg 4 rd rs1 rs2 Alu.sll)

/-- `slli` (R212). -/
def execSlli (rd rs1 : Reg) (shamt : BitVec 6) (s : State) : Result :=
  s.gate (.slli rd rs1 shamt) (s.opImm 4 rd rs1 (shamt.setWidth 64) Alu.sll)

/-- `slliw` (R213). -/
def execSlliw (rd rs1 : Reg) (shamt : BitVec 5) (s : State) : Result :=
  s.gate (.slliw rd rs1 shamt) (s.opImmW 4 rd rs1 (shamt.setWidth 64) Alu.sll)

/-- `sllw` (R214). -/
def execSllw (rd rs1 rs2 : Reg) (s : State) : Result :=
  s.gate (.sllw rd rs1 rs2) (s.opRegW 4 rd rs1 rs2 Alu.sll)

/-- `slt` (R215). -/
def execSlt (rd rs1 rs2 : Reg) (s : State) : Result :=
  s.gate (.slt rd rs1 rs2) (s.opReg 4 rd rs1 rs2 Alu.slt)

/-- `slti` (R216). -/
def execSlti (rd rs1 : Reg) (imm : BitVec 12) (s : State) : Result :=
  s.gate (.slti rd rs1 imm) (s.opImm 4 rd rs1 (s.sext imm) Alu.slt)

/-- `sltiu` (R217). -/
def execSltiu (rd rs1 : Reg) (imm : BitVec 12) (s : State) : Result :=
  s.gate (.sltiu rd rs1 imm) (s.opImm 4 rd rs1 (s.sext imm) Alu.sltu)

/-- `sltu` (R218). -/
def execSltu (rd rs1 rs2 : Reg) (s : State) : Result :=
  s.gate (.sltu rd rs1 rs2) (s.opReg 4 rd rs1 rs2 Alu.sltu)

/-- `sra` (R219). -/
def execSra (rd rs1 rs2 : Reg) (s : State) : Result :=
  s.gate (.sra rd rs1 rs2) (s.opReg 4 rd rs1 rs2 Alu.sra)

/-- `srai` (R220). -/
def execSrai (rd rs1 : Reg) (shamt : BitVec 6) (s : State) : Result :=
  s.gate (.srai rd rs1 shamt) (s.opImm 4 rd rs1 (shamt.setWidth 64) Alu.sra)

/-- `sraiw` (R221). -/
def execSraiw (rd rs1 : Reg) (shamt : BitVec 5) (s : State) : Result :=
  s.gate (.sraiw rd rs1 shamt) (s.opImmW 4 rd rs1 (shamt.setWidth 64) Alu.sra)

/-- `sraw` (R222). -/
def execSraw (rd rs1 rs2 : Reg) (s : State) : Result :=
  s.gate (.sraw rd rs1 rs2) (s.opRegW 4 rd rs1 rs2 Alu.sra)

/-- `srl` (R223). -/
def execSrl (rd rs1 rs2 : Reg) (s : State) : Result :=
  s.gate (.srl rd rs1 rs2) (s.opReg 4 rd rs1 rs2 Alu.srl)

/-- `srli` (R224). -/
def execSrli (rd rs1 : Reg) (shamt : BitVec 6) (s : State) : Result :=
  s.gate (.srli rd rs1 shamt) (s.opImm 4 rd rs1 (shamt.setWidth 64) Alu.srl)

/-- `srliw` (R225). -/
def execSrliw (rd rs1 : Reg) (shamt : BitVec 5) (s : State) : Result :=
  s.gate (.srliw rd rs1 shamt) (s.opImmW 4 rd rs1 (shamt.setWidth 64) Alu.srl)

/-- `srlw` (R226). -/
def execSrlw (rd rs1 rs2 : Reg) (s : State) : Result :=
  s.gate (.srlw rd rs1 rs2) (s.opRegW 4 rd rs1 rs2 Alu.srl)

/-- `sub` (R227). -/
def execSub (rd rs1 rs2 : Reg) (s : State) : Result :=
  s.gate (.sub rd rs1 rs2) (s.opReg 4 rd rs1 rs2 Alu.sub)

/-- `subw` (R228). -/
def execSubw (rd rs1 rs2 : Reg) (s : State) : Result :=
  s.gate (.subw rd rs1 rs2) (s.opRegW 4 rd rs1 rs2 Alu.sub)

/-- `xor` (R229). -/
def execXor (rd rs1 rs2 : Reg) (s : State) : Result :=
  s.gate (.xor rd rs1 rs2) (s.opReg 4 rd rs1 rs2 Alu.xor)

/-- `xori` (R230). -/
def execXori (rd rs1 : Reg) (imm : BitVec 12) (s : State) : Result :=
  s.gate (.xori rd rs1 imm) (s.opImm 4 rd rs1 (s.sext imm) Alu.xor)

end Sys2Proof.Machine
end

