-- ==== Sys2Proof/Machine/LoadStore.lean ====
section
/-!
DEFINITION. Sys2Proof/Machine/LoadStore.lean: the meanings of loads, stores and fences (R280 to R293).
-/
namespace Sys2Proof.Machine

open Sys2Proof

/-- `fence` (R281). One hart observes its own accesses in program order (R83), so only pc advances (log 36). -/
def execFence (pred succ : BitVec 4) (s : State) : Result :=
  s.gate (.fence pred succ) (s.finish 4)

/-- `fence.i` (R282). Every earlier store is visible to every later fetch (R88, R93). -/
def execFenceI (s : State) : Result :=
  s.gate .fenceI ({ s with imem := s.mem }.finish 4)

/-- `lb` (R283). -/
def execLb (rd rs1 : Reg) (offset : BitVec 12) (s : State) : Result :=
  s.gate (.lb rd rs1 offset) (s.loadX 4 rd (s.ea rs1 (s.sext offset)) 1 (signed 8))

/-- `lbu` (R284). -/
def execLbu (rd rs1 : Reg) (offset : BitVec 12) (s : State) : Result :=
  s.gate (.lbu rd rs1 offset) (s.loadX 4 rd (s.ea rs1 (s.sext offset)) 1 (unsigned 8))

/-- `ld` (R285). -/
def execLd (rd rs1 : Reg) (offset : BitVec 12) (s : State) : Result :=
  s.gate (.ld rd rs1 offset) (s.loadX 4 rd (s.ea rs1 (s.sext offset)) 8 (unsigned 64))

/-- `lh` (R286). -/
def execLh (rd rs1 : Reg) (offset : BitVec 12) (s : State) : Result :=
  s.gate (.lh rd rs1 offset) (s.loadX 4 rd (s.ea rs1 (s.sext offset)) 2 (signed 16))

/-- `lhu` (R287). -/
def execLhu (rd rs1 : Reg) (offset : BitVec 12) (s : State) : Result :=
  s.gate (.lhu rd rs1 offset) (s.loadX 4 rd (s.ea rs1 (s.sext offset)) 2 (unsigned 16))

/-- `lw` (R288). -/
def execLw (rd rs1 : Reg) (offset : BitVec 12) (s : State) : Result :=
  s.gate (.lw rd rs1 offset) (s.loadX 4 rd (s.ea rs1 (s.sext offset)) 4 (signed 32))

/-- `lwu` (R289). -/
def execLwu (rd rs1 : Reg) (offset : BitVec 12) (s : State) : Result :=
  s.gate (.lwu rd rs1 offset) (s.loadX 4 rd (s.ea rs1 (s.sext offset)) 4 (unsigned 32))

/-- `sb` (R290). -/
def execSb (rs2 rs1 : Reg) (offset : BitVec 12) (s : State) : Result :=
  s.gate (.sb rs2 rs1 offset) (s.storeV 4 (s.ea rs1 (s.sext offset)) 1 (s.getX rs2))

/-- `sd` (R291). -/
def execSd (rs2 rs1 : Reg) (offset : BitVec 12) (s : State) : Result :=
  s.gate (.sd rs2 rs1 offset) (s.storeV 4 (s.ea rs1 (s.sext offset)) 8 (s.getX rs2))

/-- `sh` (R292). -/
def execSh (rs2 rs1 : Reg) (offset : BitVec 12) (s : State) : Result :=
  s.gate (.sh rs2 rs1 offset) (s.storeV 4 (s.ea rs1 (s.sext offset)) 2 (s.getX rs2))

/-- `sw` (R293). -/
def execSw (rs2 rs1 : Reg) (offset : BitVec 12) (s : State) : Result :=
  s.gate (.sw rs2 rs1 offset) (s.storeV 4 (s.ea rs1 (s.sext offset)) 4 (s.getX rs2))

end Sys2Proof.Machine
end

