-- ==== Sys2Proof/Machine/MulDiv.lean ====
section
/-!
DEFINITION. Sys2Proof/Machine/MulDiv.lean: the meanings of the M extension (R340 to R353).
-/
namespace Sys2Proof.Machine

open Sys2Proof

/-- `div` (R341). -/
def execDiv (rd rs1 rs2 : Reg) (s : State) : Result :=
  s.gate (.div rd rs1 rs2) (s.opReg 4 rd rs1 rs2 Alu.div)

/-- `divu` (R342). -/
def execDivu (rd rs1 rs2 : Reg) (s : State) : Result :=
  s.gate (.divu rd rs1 rs2) (s.opReg 4 rd rs1 rs2 Alu.divu)

/-- `divuw` (R343). -/
def execDivuw (rd rs1 rs2 : Reg) (s : State) : Result :=
  s.gate (.divuw rd rs1 rs2) (s.opRegW 4 rd rs1 rs2 Alu.divu)

/-- `divw` (R344). -/
def execDivw (rd rs1 rs2 : Reg) (s : State) : Result :=
  s.gate (.divw rd rs1 rs2) (s.opRegW 4 rd rs1 rs2 Alu.div)

/-- `mul` (R345). -/
def execMul (rd rs1 rs2 : Reg) (s : State) : Result :=
  s.gate (.mul rd rs1 rs2) (s.opReg 4 rd rs1 rs2 Alu.mul)

/-- `mulh` (R346). -/
def execMulh (rd rs1 rs2 : Reg) (s : State) : Result :=
  s.gate (.mulh rd rs1 rs2) (s.opReg 4 rd rs1 rs2 Alu.mulh)

/-- `mulhsu` (R347). -/
def execMulhsu (rd rs1 rs2 : Reg) (s : State) : Result :=
  s.gate (.mulhsu rd rs1 rs2) (s.opReg 4 rd rs1 rs2 Alu.mulhsu)

/-- `mulhu` (R348). -/
def execMulhu (rd rs1 rs2 : Reg) (s : State) : Result :=
  s.gate (.mulhu rd rs1 rs2) (s.opReg 4 rd rs1 rs2 Alu.mulhu)

/-- `mulw` (R349). -/
def execMulw (rd rs1 rs2 : Reg) (s : State) : Result :=
  s.gate (.mulw rd rs1 rs2) (s.opRegW 4 rd rs1 rs2 Alu.mul)

/-- `rem` (R350). -/
def execRem (rd rs1 rs2 : Reg) (s : State) : Result :=
  s.gate (.rem rd rs1 rs2) (s.opReg 4 rd rs1 rs2 Alu.rem)

/-- `remu` (R351). -/
def execRemu (rd rs1 rs2 : Reg) (s : State) : Result :=
  s.gate (.remu rd rs1 rs2) (s.opReg 4 rd rs1 rs2 Alu.remu)

/-- `remuw` (R352). -/
def execRemuw (rd rs1 rs2 : Reg) (s : State) : Result :=
  s.gate (.remuw rd rs1 rs2) (s.opRegW 4 rd rs1 rs2 Alu.remu)

/-- `remw` (R353). -/
def execRemw (rd rs1 rs2 : Reg) (s : State) : Result :=
  s.gate (.remw rd rs1 rs2) (s.opRegW 4 rd rs1 rs2 Alu.rem)

end Sys2Proof.Machine
end

