-- ==== Sys2Proof/Machine/Single.lean ====
section
/-!
DEFINITION. Sys2Proof/Machine/Single.lean: the meanings of the F extension (R400 to R434).
-/
namespace Sys2Proof.Machine

open Sys2Proof

/-- `fadd.s` (R405). -/
def execFaddS (rm : BitVec 3) (rd rs1 rs2 : FReg) (s : State) : Result :=
  s.gate (.faddS rm rd rs1 rs2)
    (s.rounded (.faddS rm rd rs1 rs2) rm (fun m => s.fpS2 rd rs1 rs2 (Fp.add Fp.single m)))

/-- `fclass.s` (R406). No flag, FS unchanged (R404 c). -/
def execFclassS (rd : Reg) (rs1 : FReg) (s : State) : Result :=
  s.gate (.fclassS rd rs1) (s.result 4 rd (bitAt true (Fp.classify Fp.single (s.getS rs1).toNat)))

/-- `fcvt.l.s` (R407). -/
def execFcvtLS (rm : BitVec 3) (rd : Reg) (rs1 : FReg) (s : State) : Result :=
  s.gate (.fcvtLS rm rd rs1)
    (s.rounded (.fcvtLS rm rd rs1) rm
    (fun m => s.resultFlags rd (asL (Fp.toInt Fp.single m (s.getS rs1).toNat true 64))))

/-- `fcvt.lu.s` (R408). -/
def execFcvtLuS (rm : BitVec 3) (rd : Reg) (rs1 : FReg) (s : State) : Result :=
  s.gate (.fcvtLuS rm rd rs1)
    (s.rounded (.fcvtLuS rm rd rs1) rm
    (fun m => s.resultFlags rd (asL (Fp.toInt Fp.single m (s.getS rs1).toNat false 64))))

/-- `fcvt.s.l` (R409). -/
def execFcvtSL (rm : BitVec 3) (rd : FReg) (rs1 : Reg) (s : State) : Result :=
  s.gate (.fcvtSL rm rd rs1)
    (s.rounded (.fcvtSL rm rd rs1) rm
    (fun m => s.resultS rd (asS (Fp.ofInt Fp.single m (s.getX rs1).toInt))))

/-- `fcvt.s.lu` (R410). -/
def execFcvtSLu (rm : BitVec 3) (rd : FReg) (rs1 : Reg) (s : State) : Result :=
  s.gate (.fcvtSLu rm rd rs1)
    (s.rounded (.fcvtSLu rm rd rs1) rm
    (fun m => s.resultS rd (asS (Fp.ofInt Fp.single m ((s.getX rs1).toNat : Int)))))

/-- `fcvt.s.w` (R411). -/
def execFcvtSW (rm : BitVec 3) (rd : FReg) (rs1 : Reg) (s : State) : Result :=
  s.gate (.fcvtSW rm rd rs1)
    (s.rounded (.fcvtSW rm rd rs1) rm
    (fun m => s.resultS rd (asS (Fp.ofInt Fp.single m (bits (s.getX rs1) 0 32).toInt))))

/-- `fcvt.s.wu` (R412). -/
def execFcvtSWu (rm : BitVec 3) (rd : FReg) (rs1 : Reg) (s : State) : Result :=
  s.gate (.fcvtSWu rm rd rs1)
    (s.rounded (.fcvtSWu rm rd rs1) rm
    (fun m => s.resultS rd (asS (Fp.ofInt Fp.single m ((bits (s.getX rs1) 0 32).toNat : Int)))))

/-- `fcvt.w.s` (R413). -/
def execFcvtWS (rm : BitVec 3) (rd : Reg) (rs1 : FReg) (s : State) : Result :=
  s.gate (.fcvtWS rm rd rs1)
    (s.rounded (.fcvtWS rm rd rs1) rm
    (fun m => s.resultFlags rd (asW (Fp.toInt Fp.single m (s.getS rs1).toNat true 32))))

/-- `fcvt.wu.s` (R414). -/
def execFcvtWuS (rm : BitVec 3) (rd : Reg) (rs1 : FReg) (s : State) : Result :=
  s.gate (.fcvtWuS rm rd rs1)
    (s.rounded (.fcvtWuS rm rd rs1) rm
    (fun m => s.resultFlags rd (asW (Fp.toInt Fp.single m (s.getS rs1).toNat false 32))))

/-- `fdiv.s` (R415). -/
def execFdivS (rm : BitVec 3) (rd rs1 rs2 : FReg) (s : State) : Result :=
  s.gate (.fdivS rm rd rs1 rs2)
    (s.rounded (.fdivS rm rd rs1 rs2) rm (fun m => s.fpS2 rd rs1 rs2 (Fp.div Fp.single m)))

/-- `feq.s` (R416). -/
def execFeqS (rd : Reg) (rs1 rs2 : FReg) (s : State) : Result :=
  s.gate (.feqS rd rs1 rs2) (s.fpCmpS rd rs1 rs2 (Fp.eq Fp.single))

/-- `fle.s` (R417). -/
def execFleS (rd : Reg) (rs1 rs2 : FReg) (s : State) : Result :=
  s.gate (.fleS rd rs1 rs2) (s.fpCmpS rd rs1 rs2 (Fp.le Fp.single))

/-- `flt.s` (R418). -/
def execFltS (rd : Reg) (rs1 rs2 : FReg) (s : State) : Result :=
  s.gate (.fltS rd rs1 rs2) (s.fpCmpS rd rs1 rs2 (Fp.lt Fp.single))

/-- `flw` (R419). -/
def execFlw (rd : FReg) (rs1 : Reg) (offset : BitVec 12) (s : State) : Result :=
  s.gate (.flw rd rs1 offset) (s.loadS 4 rd (s.ea rs1 (s.sext offset)))

/-- `fmadd.s` (R420). -/
def execFmaddS (rm : BitVec 3) (rd rs1 rs2 rs3 : FReg) (s : State) : Result :=
  s.gate (.fmaddS rm rd rs1 rs2 rs3)
    (s.rounded (.fmaddS rm rd rs1 rs2 rs3) rm
    (fun m => s.fpS3 rd rs1 rs2 rs3 (fun a b c => Fp.fma Fp.single m a b c)))

/-- `fmax.s` (R421). -/
def execFmaxS (rd rs1 rs2 : FReg) (s : State) : Result :=
  s.gate (.fmaxS rd rs1 rs2) (s.fpS2 rd rs1 rs2 (Fp.max Fp.single))

/-- `fmin.s` (R422). -/
def execFminS (rd rs1 rs2 : FReg) (s : State) : Result :=
  s.gate (.fminS rd rs1 rs2) (s.fpS2 rd rs1 rs2 (Fp.min Fp.single))

/-- `fmsub.s` (R423). -/
def execFmsubS (rm : BitVec 3) (rd rs1 rs2 rs3 : FReg) (s : State) : Result :=
  s.gate (.fmsubS rm rd rs1 rs2 rs3)
    (s.rounded (.fmsubS rm rd rs1 rs2 rs3) rm
    (fun m => s.fpS3 rd rs1 rs2 rs3 (fun a b c => Fp.fma Fp.single m a b (Fp.negate Fp.single c))))

/-- `fmul.s` (R424). -/
def execFmulS (rm : BitVec 3) (rd rs1 rs2 : FReg) (s : State) : Result :=
  s.gate (.fmulS rm rd rs1 rs2)
    (s.rounded (.fmulS rm rd rs1 rs2) rm (fun m => s.fpS2 rd rs1 rs2 (Fp.mul Fp.single m)))

/-- `fmv.w.x` (R425). -/
def execFmvWX (rd : FReg) (rs1 : Reg) (s : State) : Result :=
  s.gate (.fmvWX rd rs1) (s.moveS rd (bits (s.getX rs1) 0 32))

/-- `fmv.x.w` (R426). The low 32 bits, boxed or not (R29). FS unchanged. -/
def execFmvXW (rd : Reg) (rs1 : FReg) (s : State) : Result :=
  s.gate (.fmvXW rd rs1) (s.result 4 rd ((bits (s.getF rs1) 0 32).signExtend 64))

/-- `fnmadd.s` (R427). -/
def execFnmaddS (rm : BitVec 3) (rd rs1 rs2 rs3 : FReg) (s : State) : Result :=
  s.gate (.fnmaddS rm rd rs1 rs2 rs3)
    (s.rounded (.fnmaddS rm rd rs1 rs2 rs3) rm
    (fun m => s.fpS3 rd rs1 rs2 rs3 (fun a b c => Fp.fma Fp.single m (Fp.negate Fp.single a) b (Fp.negate Fp.single c))))

/-- `fnmsub.s` (R428). -/
def execFnmsubS (rm : BitVec 3) (rd rs1 rs2 rs3 : FReg) (s : State) : Result :=
  s.gate (.fnmsubS rm rd rs1 rs2 rs3)
    (s.rounded (.fnmsubS rm rd rs1 rs2 rs3) rm
    (fun m => s.fpS3 rd rs1 rs2 rs3 (fun a b c => Fp.fma Fp.single m (Fp.negate Fp.single a) b c)))

/-- `fsgnj.s` (R429). -/
def execFsgnjS (rd rs1 rs2 : FReg) (s : State) : Result :=
  s.gate (.fsgnjS rd rs1 rs2) (s.moveS rd (withSignS ((s.getS rs2).getLsbD 31) (s.getS rs1)))

/-- `fsgnjn.s` (R430). -/
def execFsgnjnS (rd rs1 rs2 : FReg) (s : State) : Result :=
  s.gate (.fsgnjnS rd rs1 rs2) (s.moveS rd (withSignS (!(s.getS rs2).getLsbD 31) (s.getS rs1)))

/-- `fsgnjx.s` (R431). -/
def execFsgnjxS (rd rs1 rs2 : FReg) (s : State) : Result :=
  s.gate (.fsgnjxS rd rs1 rs2)
    (s.moveS rd (withSignS ((s.getS rs1).getLsbD 31 ^^ (s.getS rs2).getLsbD 31) (s.getS rs1)))

/-- `fsqrt.s` (R432). -/
def execFsqrtS (rm : BitVec 3) (rd rs1 : FReg) (s : State) : Result :=
  s.gate (.fsqrtS rm rd rs1) (s.rounded (.fsqrtS rm rd rs1) rm (fun m => s.fpS1 rd rs1 (Fp.sqrt Fp.single m)))

/-- `fsub.s` (R433). -/
def execFsubS (rm : BitVec 3) (rd rs1 rs2 : FReg) (s : State) : Result :=
  s.gate (.fsubS rm rd rs1 rs2)
    (s.rounded (.fsubS rm rd rs1 rs2) rm (fun m => s.fpS2 rd rs1 rs2 (Fp.sub Fp.single m)))

/-- `fsw` (R434). The low 32 bits, boxed or not (R29). FS unchanged. -/
def execFsw (rs2 : FReg) (rs1 : Reg) (offset : BitVec 12) (s : State) : Result :=
  s.gate (.fsw rs2 rs1 offset) (s.storeV 4 (s.ea rs1 (s.sext offset)) 4 (s.getF rs2))

end Sys2Proof.Machine
end

