-- ==== Sys2Proof/Machine/System.lean ====
section
/-!
DEFINITION. Sys2Proof/Machine/System.lean: the meanings of CSR, environment and privileged instructions (R310 to R322).
-/
namespace Sys2Proof.Machine

open Sys2Proof

/-- mret is legal in M-mode (R643 g). -/
def State.mretLegal (s : State) : Bool := s.priv == .machine

/-- sret is legal with S-mode, in M-mode and, when TSR is 0, in S-mode (R643 g). -/
def State.sretLegal (s : State) : Bool :=
  s.cfg.hasS && (s.priv == .machine || (s.priv == .supervisor && !s.mstatus.tsr))

/-- sfence.vma is legal with S-mode, in M-mode and, when TVM is 0, in S-mode (R643 g). -/
def State.sfenceLegal (s : State) : Bool :=
  s.cfg.hasS && (s.priv == .machine || (s.priv == .supervisor && !s.mstatus.tvm))

/-- wfi is legal in M-mode and, when TW is 0, in S-mode and in the U-mode of a machine without S (R310 f, R322, R643 g,
R660, D19), under either TrapModel (log 37). -/
def State.wfiLegal (s : State) : Bool :=
  match s.priv with
  | .machine => true
  | .supervisor => !s.mstatus.tw
  | .user => !s.cfg.hasS && !s.mstatus.tw

/-- `csrrc` (R311). -/
def execCsrrc (rd : Reg) (csr : BitVec 12) (rs1 : Reg) (s : State) : Result :=
  s.gate (.csrrc rd csr rs1) (s.csrOp (.csrrc rd csr rs1) rd csr (rs1 != 0) (fun t => t &&& ~~~ s.getX rs1))

/-- `csrrci` (R312). -/
def execCsrrci (rd : Reg) (csr : BitVec 12) (zimm : BitVec 5) (s : State) : Result :=
  s.gate (.csrrci rd csr zimm)
    (s.csrOp (.csrrci rd csr zimm) rd csr (zimm != 0) (fun t => t &&& ~~~ zimm.setWidth 64))

/-- `csrrs` (R313). -/
def execCsrrs (rd : Reg) (csr : BitVec 12) (rs1 : Reg) (s : State) : Result :=
  s.gate (.csrrs rd csr rs1) (s.csrOp (.csrrs rd csr rs1) rd csr (rs1 != 0) (fun t => t ||| s.getX rs1))

/-- `csrrsi` (R314). -/
def execCsrrsi (rd : Reg) (csr : BitVec 12) (zimm : BitVec 5) (s : State) : Result :=
  s.gate (.csrrsi rd csr zimm) (s.csrOp (.csrrsi rd csr zimm) rd csr (zimm != 0) (fun t => t ||| zimm.setWidth 64))

/-- `csrrw` (R315). -/
def execCsrrw (rd : Reg) (csr : BitVec 12) (rs1 : Reg) (s : State) : Result :=
  s.gate (.csrrw rd csr rs1) (s.csrOp (.csrrw rd csr rs1) rd csr true (fun _ => s.getX rs1))

/-- `csrrwi` (R316). -/
def execCsrrwi (rd : Reg) (csr : BitVec 12) (zimm : BitVec 5) (s : State) : Result :=
  s.gate (.csrrwi rd csr zimm) (s.csrOp (.csrrwi rd csr zimm) rd csr true (fun _ => zimm.setWidth 64))

/-- `ebreak` (R317). R647. -/
def execEbreak (s : State) : Result :=
  s.gate .ebreak (s.raise .breakpoint s.pc)

/-- `ecall` (R318). R646. -/
def execEcall (s : State) : Result :=
  s.gate .ecall (s.raise (.environmentCall s.priv) 0)

/-- `mret` (R319). R655; legality R643 g. -/
def execMret (s : State) : Result :=
  s.gate .mret (if s.mretLegal then .next s.returnM.retire else s.illegal .mret)

/-- `sfence.vma` (R320). Translation is not modelled (R82, R89, R706), so when legal only pc advances (log 36). -/
def execSfenceVma (rs1 rs2 : Reg) (s : State) : Result :=
  s.gate (.sfenceVma rs1 rs2) (if s.sfenceLegal then s.finish 4 else s.illegal (.sfenceVma rs1 rs2))

/-- `sret` (R321). R656; legality R643 g. -/
def execSret (s : State) : Result :=
  s.gate .sret (if s.sretLegal then .next s.returnS.retire else s.illegal .sret)

/-- `wfi` (R322). "Treating wfi as nop is always correct" (R668, log 30). -/
def execWfi (s : State) : Result :=
  s.gate .wfi (if s.wfiLegal then s.finish 4 else s.illegal .wfi)

end Sys2Proof.Machine
end

