-- ==== Sys2Proof/Machine/Dispatch.lean ====
section
/-!
DEFINITION. Sys2Proof/Machine/Dispatch.lean: one arm per instruction, each a direct call of its meaning.
-/
namespace Sys2Proof.Machine

open Sys2Proof

/-- Execute an instruction: its meaning, in the state whose pc is its address. -/
def exec (i : Instr) (s : State) : Host.Outcome State Fault Refusal :=
  match i with
  -- Integer computation (40_rv_i_integer.md)
  | .add rd rs1 rs2 => Sys2Proof.Machine.execAdd rd rs1 rs2 s
  | .addi rd rs1 imm => Sys2Proof.Machine.execAddi rd rs1 imm s
  | .addiw rd rs1 imm => Sys2Proof.Machine.execAddiw rd rs1 imm s
  | .addw rd rs1 rs2 => Sys2Proof.Machine.execAddw rd rs1 rs2 s
  | .and rd rs1 rs2 => Sys2Proof.Machine.execAnd rd rs1 rs2 s
  | .andi rd rs1 imm => Sys2Proof.Machine.execAndi rd rs1 imm s
  | .auipc rd imm => Sys2Proof.Machine.execAuipc rd imm s
  | .lui rd imm => Sys2Proof.Machine.execLui rd imm s
  | .or rd rs1 rs2 => Sys2Proof.Machine.execOr rd rs1 rs2 s
  | .ori rd rs1 imm => Sys2Proof.Machine.execOri rd rs1 imm s
  | .sll rd rs1 rs2 => Sys2Proof.Machine.execSll rd rs1 rs2 s
  | .slli rd rs1 shamt => Sys2Proof.Machine.execSlli rd rs1 shamt s
  | .slliw rd rs1 shamt => Sys2Proof.Machine.execSlliw rd rs1 shamt s
  | .sllw rd rs1 rs2 => Sys2Proof.Machine.execSllw rd rs1 rs2 s
  | .slt rd rs1 rs2 => Sys2Proof.Machine.execSlt rd rs1 rs2 s
  | .slti rd rs1 imm => Sys2Proof.Machine.execSlti rd rs1 imm s
  | .sltiu rd rs1 imm => Sys2Proof.Machine.execSltiu rd rs1 imm s
  | .sltu rd rs1 rs2 => Sys2Proof.Machine.execSltu rd rs1 rs2 s
  | .sra rd rs1 rs2 => Sys2Proof.Machine.execSra rd rs1 rs2 s
  | .srai rd rs1 shamt => Sys2Proof.Machine.execSrai rd rs1 shamt s
  | .sraiw rd rs1 shamt => Sys2Proof.Machine.execSraiw rd rs1 shamt s
  | .sraw rd rs1 rs2 => Sys2Proof.Machine.execSraw rd rs1 rs2 s
  | .srl rd rs1 rs2 => Sys2Proof.Machine.execSrl rd rs1 rs2 s
  | .srli rd rs1 shamt => Sys2Proof.Machine.execSrli rd rs1 shamt s
  | .srliw rd rs1 shamt => Sys2Proof.Machine.execSrliw rd rs1 shamt s
  | .srlw rd rs1 rs2 => Sys2Proof.Machine.execSrlw rd rs1 rs2 s
  | .sub rd rs1 rs2 => Sys2Proof.Machine.execSub rd rs1 rs2 s
  | .subw rd rs1 rs2 => Sys2Proof.Machine.execSubw rd rs1 rs2 s
  | .xor rd rs1 rs2 => Sys2Proof.Machine.execXor rd rs1 rs2 s
  | .xori rd rs1 imm => Sys2Proof.Machine.execXori rd rs1 imm s
  -- Control transfer (41_rv_i_control.md)
  | .beq rs1 rs2 offset => Sys2Proof.Machine.execBeq rs1 rs2 offset s
  | .bge rs1 rs2 offset => Sys2Proof.Machine.execBge rs1 rs2 offset s
  | .bgeu rs1 rs2 offset => Sys2Proof.Machine.execBgeu rs1 rs2 offset s
  | .blt rs1 rs2 offset => Sys2Proof.Machine.execBlt rs1 rs2 offset s
  | .bltu rs1 rs2 offset => Sys2Proof.Machine.execBltu rs1 rs2 offset s
  | .bne rs1 rs2 offset => Sys2Proof.Machine.execBne rs1 rs2 offset s
  | .jal rd offset => Sys2Proof.Machine.execJal rd offset s
  | .jalr rd rs1 offset => Sys2Proof.Machine.execJalr rd rs1 offset s
  -- Loads, stores and fences (42_rv_i_loadstore.md)
  | .fence pred succ => Sys2Proof.Machine.execFence pred succ s
  | .fenceI => Sys2Proof.Machine.execFenceI s
  | .lb rd rs1 offset => Sys2Proof.Machine.execLb rd rs1 offset s
  | .lbu rd rs1 offset => Sys2Proof.Machine.execLbu rd rs1 offset s
  | .ld rd rs1 offset => Sys2Proof.Machine.execLd rd rs1 offset s
  | .lh rd rs1 offset => Sys2Proof.Machine.execLh rd rs1 offset s
  | .lhu rd rs1 offset => Sys2Proof.Machine.execLhu rd rs1 offset s
  | .lw rd rs1 offset => Sys2Proof.Machine.execLw rd rs1 offset s
  | .lwu rd rs1 offset => Sys2Proof.Machine.execLwu rd rs1 offset s
  | .sb rs2 rs1 offset => Sys2Proof.Machine.execSb rs2 rs1 offset s
  | .sd rs2 rs1 offset => Sys2Proof.Machine.execSd rs2 rs1 offset s
  | .sh rs2 rs1 offset => Sys2Proof.Machine.execSh rs2 rs1 offset s
  | .sw rs2 rs1 offset => Sys2Proof.Machine.execSw rs2 rs1 offset s
  -- CSR, environment and privileged instructions (43_rv_i_system.md)
  | .csrrc rd csr rs1 => Sys2Proof.Machine.execCsrrc rd csr rs1 s
  | .csrrci rd csr zimm => Sys2Proof.Machine.execCsrrci rd csr zimm s
  | .csrrs rd csr rs1 => Sys2Proof.Machine.execCsrrs rd csr rs1 s
  | .csrrsi rd csr zimm => Sys2Proof.Machine.execCsrrsi rd csr zimm s
  | .csrrw rd csr rs1 => Sys2Proof.Machine.execCsrrw rd csr rs1 s
  | .csrrwi rd csr zimm => Sys2Proof.Machine.execCsrrwi rd csr zimm s
  | .ebreak => Sys2Proof.Machine.execEbreak s
  | .ecall => Sys2Proof.Machine.execEcall s
  | .mret => Sys2Proof.Machine.execMret s
  | .sfenceVma rs1 rs2 => Sys2Proof.Machine.execSfenceVma rs1 rs2 s
  | .sret => Sys2Proof.Machine.execSret s
  | .wfi => Sys2Proof.Machine.execWfi s
  -- M extension (44_rv_m.md)
  | .div rd rs1 rs2 => Sys2Proof.Machine.execDiv rd rs1 rs2 s
  | .divu rd rs1 rs2 => Sys2Proof.Machine.execDivu rd rs1 rs2 s
  | .divuw rd rs1 rs2 => Sys2Proof.Machine.execDivuw rd rs1 rs2 s
  | .divw rd rs1 rs2 => Sys2Proof.Machine.execDivw rd rs1 rs2 s
  | .mul rd rs1 rs2 => Sys2Proof.Machine.execMul rd rs1 rs2 s
  | .mulh rd rs1 rs2 => Sys2Proof.Machine.execMulh rd rs1 rs2 s
  | .mulhsu rd rs1 rs2 => Sys2Proof.Machine.execMulhsu rd rs1 rs2 s
  | .mulhu rd rs1 rs2 => Sys2Proof.Machine.execMulhu rd rs1 rs2 s
  | .mulw rd rs1 rs2 => Sys2Proof.Machine.execMulw rd rs1 rs2 s
  | .rem rd rs1 rs2 => Sys2Proof.Machine.execRem rd rs1 rs2 s
  | .remu rd rs1 rs2 => Sys2Proof.Machine.execRemu rd rs1 rs2 s
  | .remuw rd rs1 rs2 => Sys2Proof.Machine.execRemuw rd rs1 rs2 s
  | .remw rd rs1 rs2 => Sys2Proof.Machine.execRemw rd rs1 rs2 s
  -- A extension (45_rv_a.md)
  | .amoaddD aq rl rd rs1 rs2 => Sys2Proof.Machine.execAmoaddD aq rl rd rs1 rs2 s
  | .amoaddW aq rl rd rs1 rs2 => Sys2Proof.Machine.execAmoaddW aq rl rd rs1 rs2 s
  | .amoandD aq rl rd rs1 rs2 => Sys2Proof.Machine.execAmoandD aq rl rd rs1 rs2 s
  | .amoandW aq rl rd rs1 rs2 => Sys2Proof.Machine.execAmoandW aq rl rd rs1 rs2 s
  | .amomaxD aq rl rd rs1 rs2 => Sys2Proof.Machine.execAmomaxD aq rl rd rs1 rs2 s
  | .amomaxW aq rl rd rs1 rs2 => Sys2Proof.Machine.execAmomaxW aq rl rd rs1 rs2 s
  | .amomaxuD aq rl rd rs1 rs2 => Sys2Proof.Machine.execAmomaxuD aq rl rd rs1 rs2 s
  | .amomaxuW aq rl rd rs1 rs2 => Sys2Proof.Machine.execAmomaxuW aq rl rd rs1 rs2 s
  | .amominD aq rl rd rs1 rs2 => Sys2Proof.Machine.execAmominD aq rl rd rs1 rs2 s
  | .amominW aq rl rd rs1 rs2 => Sys2Proof.Machine.execAmominW aq rl rd rs1 rs2 s
  | .amominuD aq rl rd rs1 rs2 => Sys2Proof.Machine.execAmominuD aq rl rd rs1 rs2 s
  | .amominuW aq rl rd rs1 rs2 => Sys2Proof.Machine.execAmominuW aq rl rd rs1 rs2 s
  | .amoorD aq rl rd rs1 rs2 => Sys2Proof.Machine.execAmoorD aq rl rd rs1 rs2 s
  | .amoorW aq rl rd rs1 rs2 => Sys2Proof.Machine.execAmoorW aq rl rd rs1 rs2 s
  | .amoswapD aq rl rd rs1 rs2 => Sys2Proof.Machine.execAmoswapD aq rl rd rs1 rs2 s
  | .amoswapW aq rl rd rs1 rs2 => Sys2Proof.Machine.execAmoswapW aq rl rd rs1 rs2 s
  | .amoxorD aq rl rd rs1 rs2 => Sys2Proof.Machine.execAmoxorD aq rl rd rs1 rs2 s
  | .amoxorW aq rl rd rs1 rs2 => Sys2Proof.Machine.execAmoxorW aq rl rd rs1 rs2 s
  | .lrD aq rl rd rs1 => Sys2Proof.Machine.execLrD aq rl rd rs1 s
  | .lrW aq rl rd rs1 => Sys2Proof.Machine.execLrW aq rl rd rs1 s
  | .scD aq rl rd rs1 rs2 => Sys2Proof.Machine.execScD aq rl rd rs1 rs2 s
  | .scW aq rl rd rs1 rs2 => Sys2Proof.Machine.execScW aq rl rd rs1 rs2 s
  -- F extension (46_rv_f.md)
  | .faddS rm rd rs1 rs2 => Sys2Proof.Machine.execFaddS rm rd rs1 rs2 s
  | .fclassS rd rs1 => Sys2Proof.Machine.execFclassS rd rs1 s
  | .fcvtLS rm rd rs1 => Sys2Proof.Machine.execFcvtLS rm rd rs1 s
  | .fcvtLuS rm rd rs1 => Sys2Proof.Machine.execFcvtLuS rm rd rs1 s
  | .fcvtSL rm rd rs1 => Sys2Proof.Machine.execFcvtSL rm rd rs1 s
  | .fcvtSLu rm rd rs1 => Sys2Proof.Machine.execFcvtSLu rm rd rs1 s
  | .fcvtSW rm rd rs1 => Sys2Proof.Machine.execFcvtSW rm rd rs1 s
  | .fcvtSWu rm rd rs1 => Sys2Proof.Machine.execFcvtSWu rm rd rs1 s
  | .fcvtWS rm rd rs1 => Sys2Proof.Machine.execFcvtWS rm rd rs1 s
  | .fcvtWuS rm rd rs1 => Sys2Proof.Machine.execFcvtWuS rm rd rs1 s
  | .fdivS rm rd rs1 rs2 => Sys2Proof.Machine.execFdivS rm rd rs1 rs2 s
  | .feqS rd rs1 rs2 => Sys2Proof.Machine.execFeqS rd rs1 rs2 s
  | .fleS rd rs1 rs2 => Sys2Proof.Machine.execFleS rd rs1 rs2 s
  | .fltS rd rs1 rs2 => Sys2Proof.Machine.execFltS rd rs1 rs2 s
  | .flw rd rs1 offset => Sys2Proof.Machine.execFlw rd rs1 offset s
  | .fmaddS rm rd rs1 rs2 rs3 => Sys2Proof.Machine.execFmaddS rm rd rs1 rs2 rs3 s
  | .fmaxS rd rs1 rs2 => Sys2Proof.Machine.execFmaxS rd rs1 rs2 s
  | .fminS rd rs1 rs2 => Sys2Proof.Machine.execFminS rd rs1 rs2 s
  | .fmsubS rm rd rs1 rs2 rs3 => Sys2Proof.Machine.execFmsubS rm rd rs1 rs2 rs3 s
  | .fmulS rm rd rs1 rs2 => Sys2Proof.Machine.execFmulS rm rd rs1 rs2 s
  | .fmvWX rd rs1 => Sys2Proof.Machine.execFmvWX rd rs1 s
  | .fmvXW rd rs1 => Sys2Proof.Machine.execFmvXW rd rs1 s
  | .fnmaddS rm rd rs1 rs2 rs3 => Sys2Proof.Machine.execFnmaddS rm rd rs1 rs2 rs3 s
  | .fnmsubS rm rd rs1 rs2 rs3 => Sys2Proof.Machine.execFnmsubS rm rd rs1 rs2 rs3 s
  | .fsgnjS rd rs1 rs2 => Sys2Proof.Machine.execFsgnjS rd rs1 rs2 s
  | .fsgnjnS rd rs1 rs2 => Sys2Proof.Machine.execFsgnjnS rd rs1 rs2 s
  | .fsgnjxS rd rs1 rs2 => Sys2Proof.Machine.execFsgnjxS rd rs1 rs2 s
  | .fsqrtS rm rd rs1 => Sys2Proof.Machine.execFsqrtS rm rd rs1 s
  | .fsubS rm rd rs1 rs2 => Sys2Proof.Machine.execFsubS rm rd rs1 rs2 s
  | .fsw rs2 rs1 offset => Sys2Proof.Machine.execFsw rs2 rs1 offset s
  -- D extension (47_rv_d.md)
  | .faddD rm rd rs1 rs2 => Sys2Proof.Machine.execFaddD rm rd rs1 rs2 s
  | .fclassD rd rs1 => Sys2Proof.Machine.execFclassD rd rs1 s
  | .fcvtDL rm rd rs1 => Sys2Proof.Machine.execFcvtDL rm rd rs1 s
  | .fcvtDLu rm rd rs1 => Sys2Proof.Machine.execFcvtDLu rm rd rs1 s
  | .fcvtDS rm rd rs1 => Sys2Proof.Machine.execFcvtDS rm rd rs1 s
  | .fcvtDW rm rd rs1 => Sys2Proof.Machine.execFcvtDW rm rd rs1 s
  | .fcvtDWu rm rd rs1 => Sys2Proof.Machine.execFcvtDWu rm rd rs1 s
  | .fcvtLD rm rd rs1 => Sys2Proof.Machine.execFcvtLD rm rd rs1 s
  | .fcvtLuD rm rd rs1 => Sys2Proof.Machine.execFcvtLuD rm rd rs1 s
  | .fcvtSD rm rd rs1 => Sys2Proof.Machine.execFcvtSD rm rd rs1 s
  | .fcvtWD rm rd rs1 => Sys2Proof.Machine.execFcvtWD rm rd rs1 s
  | .fcvtWuD rm rd rs1 => Sys2Proof.Machine.execFcvtWuD rm rd rs1 s
  | .fdivD rm rd rs1 rs2 => Sys2Proof.Machine.execFdivD rm rd rs1 rs2 s
  | .feqD rd rs1 rs2 => Sys2Proof.Machine.execFeqD rd rs1 rs2 s
  | .fld rd rs1 offset => Sys2Proof.Machine.execFld rd rs1 offset s
  | .fleD rd rs1 rs2 => Sys2Proof.Machine.execFleD rd rs1 rs2 s
  | .fltD rd rs1 rs2 => Sys2Proof.Machine.execFltD rd rs1 rs2 s
  | .fmaddD rm rd rs1 rs2 rs3 => Sys2Proof.Machine.execFmaddD rm rd rs1 rs2 rs3 s
  | .fmaxD rd rs1 rs2 => Sys2Proof.Machine.execFmaxD rd rs1 rs2 s
  | .fminD rd rs1 rs2 => Sys2Proof.Machine.execFminD rd rs1 rs2 s
  | .fmsubD rm rd rs1 rs2 rs3 => Sys2Proof.Machine.execFmsubD rm rd rs1 rs2 rs3 s
  | .fmulD rm rd rs1 rs2 => Sys2Proof.Machine.execFmulD rm rd rs1 rs2 s
  | .fmvDX rd rs1 => Sys2Proof.Machine.execFmvDX rd rs1 s
  | .fmvXD rd rs1 => Sys2Proof.Machine.execFmvXD rd rs1 s
  | .fnmaddD rm rd rs1 rs2 rs3 => Sys2Proof.Machine.execFnmaddD rm rd rs1 rs2 rs3 s
  | .fnmsubD rm rd rs1 rs2 rs3 => Sys2Proof.Machine.execFnmsubD rm rd rs1 rs2 rs3 s
  | .fsd rs2 rs1 offset => Sys2Proof.Machine.execFsd rs2 rs1 offset s
  | .fsgnjD rd rs1 rs2 => Sys2Proof.Machine.execFsgnjD rd rs1 rs2 s
  | .fsgnjnD rd rs1 rs2 => Sys2Proof.Machine.execFsgnjnD rd rs1 rs2 s
  | .fsgnjxD rd rs1 rs2 => Sys2Proof.Machine.execFsgnjxD rd rs1 rs2 s
  | .fsqrtD rm rd rs1 => Sys2Proof.Machine.execFsqrtD rm rd rs1 s
  | .fsubD rm rd rs1 rs2 => Sys2Proof.Machine.execFsubD rm rd rs1 rs2 s
  -- C extension (48_rv_c.md)
  | .cAdd rd rs2 => Sys2Proof.Machine.execCAdd rd rs2 s
  | .cAddi rd imm => Sys2Proof.Machine.execCAddi rd imm s
  | .cAddi16sp imm => Sys2Proof.Machine.execCAddi16sp imm s
  | .cAddi4spn rd uimm => Sys2Proof.Machine.execCAddi4spn rd uimm s
  | .cAddiw rd imm => Sys2Proof.Machine.execCAddiw rd imm s
  | .cAddw rd rs2 => Sys2Proof.Machine.execCAddw rd rs2 s
  | .cAnd rd rs2 => Sys2Proof.Machine.execCAnd rd rs2 s
  | .cAndi rd imm => Sys2Proof.Machine.execCAndi rd imm s
  | .cBeqz rs1 offset => Sys2Proof.Machine.execCBeqz rs1 offset s
  | .cBnez rs1 offset => Sys2Proof.Machine.execCBnez rs1 offset s
  | .cEbreak => Sys2Proof.Machine.execCEbreak s
  | .cFld rd rs1 uimm => Sys2Proof.Machine.execCFld rd rs1 uimm s
  | .cFldsp rd uimm => Sys2Proof.Machine.execCFldsp rd uimm s
  | .cFlw rd rs1 uimm => Sys2Proof.Machine.execCFlw rd rs1 uimm s
  | .cFlwsp rd uimm => Sys2Proof.Machine.execCFlwsp rd uimm s
  | .cFsd rs2 rs1 uimm => Sys2Proof.Machine.execCFsd rs2 rs1 uimm s
  | .cFsdsp rs2 uimm => Sys2Proof.Machine.execCFsdsp rs2 uimm s
  | .cFsw rs2 rs1 uimm => Sys2Proof.Machine.execCFsw rs2 rs1 uimm s
  | .cFswsp rs2 uimm => Sys2Proof.Machine.execCFswsp rs2 uimm s
  | .cJ offset => Sys2Proof.Machine.execCJ offset s
  | .cJal offset => Sys2Proof.Machine.execCJal offset s
  | .cJalr rs1 => Sys2Proof.Machine.execCJalr rs1 s
  | .cJr rs1 => Sys2Proof.Machine.execCJr rs1 s
  | .cLd rd rs1 uimm => Sys2Proof.Machine.execCLd rd rs1 uimm s
  | .cLdsp rd uimm => Sys2Proof.Machine.execCLdsp rd uimm s
  | .cLi rd imm => Sys2Proof.Machine.execCLi rd imm s
  | .cLui rd imm => Sys2Proof.Machine.execCLui rd imm s
  | .cLw rd rs1 uimm => Sys2Proof.Machine.execCLw rd rs1 uimm s
  | .cLwsp rd uimm => Sys2Proof.Machine.execCLwsp rd uimm s
  | .cMv rd rs2 => Sys2Proof.Machine.execCMv rd rs2 s
  | .cOr rd rs2 => Sys2Proof.Machine.execCOr rd rs2 s
  | .cSd rs2 rs1 uimm => Sys2Proof.Machine.execCSd rs2 rs1 uimm s
  | .cSdsp rs2 uimm => Sys2Proof.Machine.execCSdsp rs2 uimm s
  | .cSlli rd shamt => Sys2Proof.Machine.execCSlli rd shamt s
  | .cSrai rd shamt => Sys2Proof.Machine.execCSrai rd shamt s
  | .cSrli rd shamt => Sys2Proof.Machine.execCSrli rd shamt s
  | .cSub rd rs2 => Sys2Proof.Machine.execCSub rd rs2 s
  | .cSubw rd rs2 => Sys2Proof.Machine.execCSubw rd rs2 s
  | .cSw rs2 rs1 uimm => Sys2Proof.Machine.execCSw rs2 rs1 uimm s
  | .cSwsp rs2 uimm => Sys2Proof.Machine.execCSwsp rs2 uimm s
  | .cXor rd rs2 => Sys2Proof.Machine.execCXor rd rs2 s

end Sys2Proof.Machine
end

