-- ==== Sys2Proof/Machine/Fetch.lean ====
section
/-!
DEFINITION. Sys2Proof/Machine/Fetch.lean: fetching an instruction (R77, R93), the counters of a step (R37), and the
parts of a step that Step.lean puts together.
-/
namespace Sys2Proof.Machine

open Sys2Proof

/-- Does the fetch of the first or the second parcel see the old bytes (R93, log 12)? -/
def State.stale (s : State) (second : Bool) : Bool :=
  match s.cfg.fetchChoice with
  | .pinned => false
  | .free => if second then Config.staleHigh s.drawIndex else Config.staleLow s.drawIndex

/-- A 16-bit parcel at a (R77, R121), of memory as it is or as it was at the last fence.i (R93). -/
def State.parcel (s : State) (a : Word) (old : Bool) : BitVec 16 :=
  let m := if old then s.imem else s.mem
  Memory.read m (s.norm (a + 1)).toNat ++ Memory.read m (s.norm a).toNat

/-- What a fetch answers. -/
inductive Fetched where
  /-- The bits of the instruction. -/
  | code (c : Code)
  /-- InstructionAccessFault (R77, R81). -/
  | denied
  /-- A device address: the spec gives no behaviour (R79). -/
  | device (addr : Nat)
deriving DecidableEq, Repr

/-- Fetch at pc: one parcel, or two when bits 1:0 of the first are 11 (R77, R120). -/
def State.fetch (s : State) : Fetched :=
  match s.check .fetch s.pc 2 with
  | .denied => .denied
  | .device a => .device a
  | .ok =>
    let p0 := s.parcel s.pc (s.stale false)
    if bits p0 0 2 = 3#2 then
      match s.check .fetch (s.pc + 2) 2 with
      | .denied => .denied
      | .device a => .device a
      | .ok => .code (.word (s.parcel (s.pc + 2) (s.stale true) ++ p0))
    else .code (.half p0)

/-- CYCLES of this step (R37, log 13). -/
def State.cycles (s : State) : BitVec 64 :=
  match s.cfg.cycleChoice with
  | .pinned => 1
  | .free => BitVec.ofNat 64 (1 + Config.extraCycles s.drawIndex)

/-- The end of every step: mcycle and mtime advance (R37), and the free values move on to their next draw (log 31). -/
def State.tick (s : State) : State :=
  { s with mcycle := s.mcycle + s.cycles, mtime := s.mtime + s.cycles, drawIndex := s.drawIndex + 1 }

/-- The end of a step that has a next state. -/
def tickResult : Result → Result
  | .next s => .next s.tick
  | .fault r => .fault r
  | .refused r => .refused r

/-- Execute what was fetched (R176, R642), given the meaning of instructions. -/
def State.runFetched (s : State) (run : Instr → State → Result) : Fetched → Result
  | .denied => s.raise .instructionAccessFault s.pc
  | .device a => .refused (.deviceAccess a)
  | .code c =>
    match decode s.cfg.xlen c with
    | .instr i => run i s
    | .reject _ => s.raise .illegalInstruction c.value

/-- One instruction step (R26): an interrupt if one is taken (R651), else fetch, decode, execute; then the counters. -/
def State.stepWith (run : Instr → State → Result) (s : State) : Result :=
  let t := s.sampleLines
  tickResult
    (match t.interruptTaken with
     | some c => t.trap true c 0
     | none => t.runFetched run t.fetch)

/-- The bytes of an instruction stored from a on, seen by loads and fetches alike (log 9, log 27). -/
def State.place (s : State) (a : Word) : List Byte → State
  | [] => s
  | b :: bs =>
    { s with mem := Memory.write s.mem (s.norm a).toNat b, imem := Memory.write s.imem (s.norm a).toNat b }.place
      (a + 1) bs

end Sys2Proof.Machine
end

