-- ==== Sys2Proof/Machine/Step.lean ====
section
/-!
DEFINITION. Sys2Proof/Machine/Step.lean: one step of the machine (R26), and a program placed where the next step fetches.
-/
namespace Sys2Proof.Machine

open Sys2Proof

/-- One step: an interrupt, or one instruction (R26). -/
def step (s : State) : Host.Outcome State Fault Refusal := State.stepWith exec s

/-- s with the instruction whose bits are w (those above nbits are 0) stored at pc, where step fetches (log 27). -/
def State.withFetchWord (s : State) (nbits w : Nat) : State := s.place s.pc (bytesOfNat 4 (w % 2 ^ nbits))

end Sys2Proof.Machine
end

