-- ==== Sys2Proof/Machine/Terms.lean ====
section
/-!
DEFINITION. Sys2Proof/Machine/Terms.lean: the terms in which statements about the machine are made: registers and memory
read as numbers, what an instruction may touch, and the states in which an instruction ends. The machine uses none of them.
-/
namespace Sys2Proof.Machine

open Sys2Proof

/-! ## Numbers -/

/-- The two's-complement reading of an n-bit number (R8). -/
def twos (n u : Nat) : Int := if u < 2 ^ (n - 1) then (u : Int) else (u : Int) - 2 ^ n

/-- XLEN. -/
def State.width (s : State) : Nat := s.cfg.xlen.bits

/-- x[i] as an unsigned number. -/
def State.unsignedX (s : State) (i : Reg) : Nat := (s.getX i).toNat

/-- x[i] as a two's-complement number. -/
def State.signedX (s : State) (i : Reg) : Int := twos s.width (s.unsignedX i)

/-- The low 32 bits of x[i] as an unsigned and as a two's-complement number (R200 f). -/
def State.unsignedW (s : State) (i : Reg) : Nat := s.unsignedX i % 2 ^ 32
def State.signedW (s : State) (i : Reg) : Int := twos 32 (s.unsignedW i)

/-- A number modulo 2^XLEN, as an XLEN-bit value (R8, R27). -/
def State.word (s : State) (v : Int) : Word := BitVec.ofInt 64 (v % 2 ^ s.width)

/-- The low 32 bits of a number, sign-extended (R200 f). -/
def State.wordW (s : State) (v : Int) : Word := s.word (twos 32 (v % 2 ^ 32).toNat)

/-- An effective address: x[rs1] + a displacement modulo 2^XLEN (R95). -/
def State.address (s : State) (rs1 : Reg) (displacement : Int) : Word := s.word (s.unsignedX rs1 + displacement)

/-- The n bytes from a on as a number, the byte at a the least significant (R72, R73). -/
def State.leNat (s : State) (a : Word) (n : Nat) : Nat :=
  ((List.range n).map (fun i => (s.byte (a + BitVec.ofNat 64 i)).toNat * 2 ^ (8 * i))).sum

/-! ## Accesses -/

/-- The byte at a is memory, of a region with the permissions of the access (R80, R81). -/
def State.granted (s : State) (k : Access) (a : Word) : Bool :=
  match Params.regionAt s.cfg (s.norm a).toNat with
  | none => false
  | some r => r.kind == .memory && Region.grants r k

/-- So are all n bytes from a on. -/
def State.grantedAll (s : State) (k : Access) (a : Word) (n : Nat) : Prop :=
  ∀ i < n, s.granted k (a + BitVec.ofNat 64 i) = true

/-- The byte at a is in no region, or in one without the permissions of the access (R81). -/
def State.forbidden (s : State) (k : Access) (a : Word) : Bool :=
  match Params.regionAt s.cfg (s.norm a).toNat with
  | none => true
  | some r => !Region.grants r k

/-- The address is a multiple of n (R75). -/
def State.multipleOf (s : State) (a : Word) (n : Nat) : Prop := (s.norm a).toNat % n = 0

/-- An access of n bytes at a completes: its bytes are granted, and it is aligned or may be split (R75, R81). -/
def State.completes (s : State) (k : Access) (a : Word) (n : Nat) : Prop :=
  s.grantedAll k a n ∧ (s.multipleOf a n ∨ s.cfg.misaligned = .split)

/-! ## Ends of an instruction -/

/-- Nothing but the end of the instruction: pc advances and the instruction retires. -/
def State.passed (s : State) (len : Word) : State := (s.advance len).retire

/-- x[rd] written, and the instruction ended. -/
def State.wrote (s : State) (len : Word) (rd : Reg) (v : Word) : State := (s.setX rd v).passed len

/-- n bytes stored at a, and the instruction ended. -/
def State.stored (s : State) (len a : Word) (n : Nat) (v : Word) : State := (s.writeBytes a n v).passed len

/-- A transfer to a target. -/
def State.jumped (s : State) (target : Word) : State := { s with pc := target }.retire

/-- A transfer to a target, with the link in x[rd]. -/
def State.linked (s : State) (len : Word) (rd : Reg) (target : Word) : State :=
  { s.setX rd (s.norm (s.pc + len)) with pc := target }.retire

/-- A single-precision or a double-precision result and its flags written (R404), and the instruction ended. -/
def State.wroteS (s : State) (rd : FReg) (r : Nat × BitVec 5) : State :=
  ((s.setS rd (BitVec.ofNat 32 r.1)).accrue r.2).passed 4
def State.wroteD (s : State) (rd : FReg) (r : Nat × BitVec 5) : State :=
  ((s.setF rd (BitVec.ofNat 64 r.1)).accrue r.2).passed 4

/-- An integer result of a floating-point instruction and its flags written, and the instruction ended. -/
def State.wroteI (s : State) (rd : Reg) (v : Int) (fl : BitVec 5) : State := ((s.setX rd (s.word v)).accrue fl).passed 4

/-- A CSR instruction ended: the CSR written with `w` if it writes, its old value in x[rd]; retired, unless it wrote
minstret (R37, R310). -/
def State.csrDone (s : State) (c : Csr) (rd : Reg) (w : Option Word) : State :=
  let t := match w with
    | some v => s.csrWrite c v
    | none => s
  let u := (t.setX rd (s.csrRead c)).advance 4
  if w.isSome && c.isInstret then u else u.retire

/-! ## Floating point -/

/-- The value of a finite pattern without its sign, and of the infinity pattern the value the next exponent would give
(R400). -/
def Fp.magnitude (F : Fp.Format) (p : Nat) : ℚ :=
  let ex := p / 2 ^ F.fracBits
  let frac := p % 2 ^ F.fracBits
  if ex = 0 then (frac : ℚ) * 2 ^ F.minExp else ((frac + 2 ^ F.fracBits : Nat) : ℚ) * 2 ^ (F.minExp + (ex : Int) - 1)

/-- The value of a finite pattern with its sign. -/
def Fp.number (F : Fp.Format) (a : Nat) : ℚ :=
  if a / F.signBit % 2 = 1 then -Fp.magnitude F (a % F.signBit) else Fp.magnitude F (a % F.signBit)

/-- A pattern of the format that is finite. -/
def Fp.finite (F : Fp.Format) (a : Nat) : Prop := a < 2 * F.signBit ∧ a % F.signBit < F.infPattern

/-- The rounding mode is directed toward zero for this sign, or away from zero. -/
def Rounding.inward (rm : Rounding) (neg : Bool) : Bool := rm == .towardZero || (rm == .down && !neg) || (rm == .up && neg)
def Rounding.outward (rm : Rounding) (neg : Bool) : Bool := (rm == .down && neg) || (rm == .up && !neg)

/-- The sign of a pattern. -/
def Fp.negative (F : Fp.Format) (a : Nat) : Bool := a / F.signBit % 2 == 1

/-- NaNs, signaling NaNs and infinities by their patterns (R400). -/
def Fp.nanPattern (F : Fp.Format) (a : Nat) : Bool := decide (F.infPattern < a % F.signBit)
def Fp.signalingPattern (F : Fp.Format) (a : Nat) : Bool := Fp.nanPattern F a && decide (a % F.signBit < F.nan)
def Fp.infinitePattern (F : Fp.Format) (a : Nat) : Bool := a % F.signBit == F.infPattern

/-- The result and flags r are the value v > 0, of sign neg, rounded to the format (R401 a, c). Overflow is signaled
exactly when rounding with an unbounded exponent leaves the format; the result is then the one its mode asks for, with
OF and NX. Otherwise the result is the neighbour of v that the mode asks for, NX says whether it differs from v, and UF
whether it does and v rounded with an unbounded exponent lies below the normal range. -/
def Fp.Rounded (F : Fp.Format) (rm : Rounding) (neg : Bool) (v : ℚ) (r : Nat × BitVec 5) : Prop :=
  let mag := Fp.magnitude F
  let top := F.infPattern
  let normal := mag (2 ^ F.fracBits)
  let p := r.1 % F.signBit
  let nearest := rm = .nearestEven ∨ rm = .nearestMax
  let overflow := (rm.inward neg = true ∧ mag top ≤ v) ∨ (rm.outward neg = true ∧ mag (top - 1) < v) ∨
    (nearest ∧ mag (top - 1) + mag top ≤ 2 * v)
  let tiny := (rm.inward neg = true ∧ v < normal) ∨ (rm.outward neg = true ∧ 2 * v ≤ 2 * normal - mag 1) ∨
    (nearest ∧ 4 * v < 4 * normal - mag 1)
  (overflow → r = (F.withSign neg (if rm.inward neg then top - 1 else top), flagOF ||| flagNX)) ∧
  (¬ overflow →
    p < top ∧ r.1 = F.withSign neg p ∧
    (rm.inward neg = true → mag p ≤ v ∧ v < mag (p + 1)) ∧
    (rm.outward neg = true → v ≤ mag p ∧ (p = 0 ∨ mag (p - 1) < v)) ∧
    (nearest → 2 * v ≤ mag p + mag (p + 1) ∧ (p = 0 ∨ mag (p - 1) + mag p ≤ 2 * v)) ∧
    (rm = .nearestEven → 2 * v = mag p + mag (p + 1) ∨ (p ≠ 0 ∧ mag (p - 1) + mag p = 2 * v) → p % 2 = 0) ∧
    (rm = .nearestMax → 2 * v < mag p + mag (p + 1)) ∧
    (mag p = v → r.2 = 0) ∧ (mag p ≠ v → tiny → r.2 = flagUF ||| flagNX) ∧ (mag p ≠ v → ¬ tiny → r.2 = flagNX))

/-- The integer n is v rounded to an integer (R401 f). -/
def Fp.RoundedToInt (rm : Rounding) (v : ℚ) (n : Int) : Prop :=
  match rm with
  | .towardZero => n = if v < 0 then ⌈v⌉ else ⌊v⌋
  | .down => n = ⌊v⌋
  | .up => n = ⌈v⌉
  | .nearestEven => 2 * |v - n| ≤ 1 ∧ (2 * |v - n| = 1 → n % 2 = 0)
  | .nearestMax => 2 * |v - n| ≤ 1 ∧ (2 * |v - n| = 1 → |v| < |(n : ℚ)|)

/-- Floating point is on, for single and for double precision (R404 b). -/
def State.singleOn (s : State) : Prop := s.cfg.extF = true ∧ s.mstatus.fs ≠ 0
def State.doubleOn (s : State) : Prop := s.cfg.extF = true ∧ s.cfg.extD = true ∧ s.mstatus.fs ≠ 0

/-! ## What an instruction may touch -/

end Sys2Proof.Machine

namespace Sys2Proof

open Sys2Proof.Machine

/-- The x register an instruction writes, if it writes one. -/
def Instr.xDest : Instr → Option Reg
  | .add rd _ _ | .addi rd _ _ | .addiw rd _ _ | .addw rd _ _ | .and rd _ _ | .andi rd _ _ | .auipc rd _
  | .lui rd _ | .or rd _ _ | .ori rd _ _ | .sll rd _ _ | .slli rd _ _ | .slliw rd _ _ | .sllw rd _ _
  | .slt rd _ _ | .slti rd _ _ | .sltiu rd _ _ | .sltu rd _ _ | .sra rd _ _ | .srai rd _ _ | .sraiw rd _ _
  | .sraw rd _ _ | .srl rd _ _ | .srli rd _ _ | .srliw rd _ _ | .srlw rd _ _ | .sub rd _ _ | .subw rd _ _
  | .xor rd _ _ | .xori rd _ _ | .jal rd _ | .jalr rd _ _ | .lb rd _ _ | .lbu rd _ _ | .ld rd _ _ | .lh rd _ _
  | .lhu rd _ _ | .lw rd _ _ | .lwu rd _ _ | .csrrc rd _ _ | .csrrci rd _ _ | .csrrs rd _ _ | .csrrsi rd _ _
  | .csrrw rd _ _ | .csrrwi rd _ _ | .div rd _ _ | .divu rd _ _ | .divuw rd _ _ | .divw rd _ _ | .mul rd _ _
  | .mulh rd _ _ | .mulhsu rd _ _ | .mulhu rd _ _ | .mulw rd _ _ | .rem rd _ _ | .remu rd _ _ | .remuw rd _ _
  | .remw rd _ _ | .amoaddD _ _ rd _ _ | .amoaddW _ _ rd _ _ | .amoandD _ _ rd _ _ | .amoandW _ _ rd _ _
  | .amomaxD _ _ rd _ _ | .amomaxW _ _ rd _ _ | .amomaxuD _ _ rd _ _ | .amomaxuW _ _ rd _ _
  | .amominD _ _ rd _ _ | .amominW _ _ rd _ _ | .amominuD _ _ rd _ _ | .amominuW _ _ rd _ _
  | .amoorD _ _ rd _ _ | .amoorW _ _ rd _ _ | .amoswapD _ _ rd _ _ | .amoswapW _ _ rd _ _ | .amoxorD _ _ rd _ _
  | .amoxorW _ _ rd _ _ | .lrD _ _ rd _ | .lrW _ _ rd _ | .scD _ _ rd _ _ | .scW _ _ rd _ _ | .fclassS rd _
  | .fcvtLS _ rd _ | .fcvtLuS _ rd _ | .fcvtWS _ rd _ | .fcvtWuS _ rd _ | .feqS rd _ _ | .fleS rd _ _
  | .fltS rd _ _ | .fmvXW rd _ | .fclassD rd _ | .fcvtLD _ rd _ | .fcvtLuD _ rd _ | .fcvtWD _ rd _
  | .fcvtWuD _ rd _ | .feqD rd _ _ | .fleD rd _ _ | .fltD rd _ _ | .fmvXD rd _ | .cAdd rd _ | .cAddi rd _
  | .cAddiw rd _ | .cLdsp rd _ | .cLi rd _ | .cLui rd _ | .cLwsp rd _ | .cMv rd _ | .cSlli rd _ => some rd
  | .cAddi16sp _ => some 2
  | .cAddi4spn rd _ | .cAddw rd _ | .cAnd rd _ | .cAndi rd _ | .cLd rd _ _ | .cLw rd _ _ | .cOr rd _
  | .cSrai rd _ | .cSrli rd _ | .cSub rd _ | .cSubw rd _ | .cXor rd _ => some (creg rd)
  | .cJal _ | .cJalr _ => some 1
  | .beq .. | .bge .. | .bgeu .. | .blt .. | .bltu .. | .bne .. | .fence .. | .fenceI | .sb .. | .sd ..
  | .sh .. | .sw .. | .ebreak | .ecall | .mret | .sfenceVma .. | .sret | .wfi | .faddS .. | .fcvtSL ..
  | .fcvtSLu .. | .fcvtSW .. | .fcvtSWu .. | .fdivS .. | .flw .. | .fmaddS .. | .fmaxS .. | .fminS ..
  | .fmsubS .. | .fmulS .. | .fmvWX .. | .fnmaddS .. | .fnmsubS .. | .fsgnjS .. | .fsgnjnS .. | .fsgnjxS ..
  | .fsqrtS .. | .fsubS .. | .fsw .. | .faddD .. | .fcvtDL .. | .fcvtDLu .. | .fcvtDS .. | .fcvtDW ..
  | .fcvtDWu .. | .fcvtSD .. | .fdivD .. | .fld .. | .fmaddD .. | .fmaxD .. | .fminD .. | .fmsubD ..
  | .fmulD .. | .fmvDX .. | .fnmaddD .. | .fnmsubD .. | .fsd .. | .fsgnjD .. | .fsgnjnD .. | .fsgnjxD ..
  | .fsqrtD .. | .fsubD .. | .cBeqz .. | .cBnez .. | .cEbreak | .cFld .. | .cFldsp .. | .cFlw .. | .cFlwsp ..
  | .cFsd .. | .cFsdsp .. | .cFsw .. | .cFswsp .. | .cJ .. | .cJr .. | .cSd .. | .cSdsp .. | .cSw ..
  | .cSwsp .. => none

/-- The f register an instruction writes, if it writes one. -/
def Instr.fDest : Instr → Option FReg
  | .faddS _ rd _ _ | .fcvtSL _ rd _ | .fcvtSLu _ rd _ | .fcvtSW _ rd _ | .fcvtSWu _ rd _ | .fdivS _ rd _ _
  | .flw rd _ _ | .fmaddS _ rd _ _ _ | .fmaxS rd _ _ | .fminS rd _ _ | .fmsubS _ rd _ _ _ | .fmulS _ rd _ _
  | .fmvWX rd _ | .fnmaddS _ rd _ _ _ | .fnmsubS _ rd _ _ _ | .fsgnjS rd _ _ | .fsgnjnS rd _ _
  | .fsgnjxS rd _ _ | .fsqrtS _ rd _ | .fsubS _ rd _ _ | .faddD _ rd _ _ | .fcvtDL _ rd _ | .fcvtDLu _ rd _
  | .fcvtDS _ rd _ | .fcvtDW _ rd _ | .fcvtDWu _ rd _ | .fcvtSD _ rd _ | .fdivD _ rd _ _ | .fld rd _ _
  | .fmaddD _ rd _ _ _ | .fmaxD rd _ _ | .fminD rd _ _ | .fmsubD _ rd _ _ _ | .fmulD _ rd _ _ | .fmvDX rd _
  | .fnmaddD _ rd _ _ _ | .fnmsubD _ rd _ _ _ | .fsgnjD rd _ _ | .fsgnjnD rd _ _ | .fsgnjxD rd _ _
  | .fsqrtD _ rd _ | .fsubD _ rd _ _ | .cFldsp rd _ | .cFlwsp rd _ => some rd
  | .cFld rd _ _ | .cFlw rd _ _ => some (creg rd)
  | .add .. | .addi .. | .addiw .. | .addw .. | .and .. | .andi .. | .auipc .. | .lui .. | .or .. | .ori ..
  | .sll .. | .slli .. | .slliw .. | .sllw .. | .slt .. | .slti .. | .sltiu .. | .sltu .. | .sra .. | .srai ..
  | .sraiw .. | .sraw .. | .srl .. | .srli .. | .srliw .. | .srlw .. | .sub .. | .subw .. | .xor .. | .xori ..
  | .beq .. | .bge .. | .bgeu .. | .blt .. | .bltu .. | .bne .. | .jal .. | .jalr .. | .fence .. | .fenceI
  | .lb .. | .lbu .. | .ld .. | .lh .. | .lhu .. | .lw .. | .lwu .. | .sb .. | .sd .. | .sh .. | .sw ..
  | .csrrc .. | .csrrci .. | .csrrs .. | .csrrsi .. | .csrrw .. | .csrrwi .. | .ebreak | .ecall | .mret
  | .sfenceVma .. | .sret | .wfi | .div .. | .divu .. | .divuw .. | .divw .. | .mul .. | .mulh .. | .mulhsu ..
  | .mulhu .. | .mulw .. | .rem .. | .remu .. | .remuw .. | .remw .. | .amoaddD .. | .amoaddW .. | .amoandD ..
  | .amoandW .. | .amomaxD .. | .amomaxW .. | .amomaxuD .. | .amomaxuW .. | .amominD .. | .amominW ..
  | .amominuD .. | .amominuW .. | .amoorD .. | .amoorW .. | .amoswapD .. | .amoswapW .. | .amoxorD ..
  | .amoxorW .. | .lrD .. | .lrW .. | .scD .. | .scW .. | .fclassS .. | .fcvtLS .. | .fcvtLuS .. | .fcvtWS ..
  | .fcvtWuS .. | .feqS .. | .fleS .. | .fltS .. | .fmvXW .. | .fsw .. | .fclassD .. | .fcvtLD .. | .fcvtLuD ..
  | .fcvtWD .. | .fcvtWuD .. | .feqD .. | .fleD .. | .fltD .. | .fmvXD .. | .fsd .. | .cAdd .. | .cAddi ..
  | .cAddi16sp .. | .cAddi4spn .. | .cAddiw .. | .cAddw .. | .cAnd .. | .cAndi .. | .cBeqz .. | .cBnez ..
  | .cEbreak | .cFsd .. | .cFsdsp .. | .cFsw .. | .cFswsp .. | .cJ .. | .cJal .. | .cJalr .. | .cJr ..
  | .cLd .. | .cLdsp .. | .cLi .. | .cLui .. | .cLw .. | .cLwsp .. | .cMv .. | .cOr .. | .cSd .. | .cSdsp ..
  | .cSlli .. | .cSrai .. | .cSrli .. | .cSub .. | .cSubw .. | .cSw .. | .cSwsp .. | .cXor .. => none

/-- The instructions that OR flags into fcsr.fflags (R404 a; the flags lines of R405 to R482). -/
def Instr.accrues : Instr → Bool
  | .faddS _ _ _ _ | .fcvtLS _ _ _ | .fcvtLuS _ _ _ | .fcvtSL _ _ _ | .fcvtSLu _ _ _ | .fcvtSW _ _ _
  | .fcvtSWu _ _ _ | .fcvtWS _ _ _ | .fcvtWuS _ _ _ | .fdivS _ _ _ _ | .feqS _ _ _ | .fleS _ _ _ | .fltS _ _ _
  | .fmaddS _ _ _ _ _ | .fmaxS _ _ _ | .fminS _ _ _ | .fmsubS _ _ _ _ _ | .fmulS _ _ _ _ | .fnmaddS _ _ _ _ _
  | .fnmsubS _ _ _ _ _ | .fsqrtS _ _ _ | .fsubS _ _ _ _ | .faddD _ _ _ _ | .fcvtDL _ _ _ | .fcvtDLu _ _ _
  | .fcvtDS _ _ _ | .fcvtLD _ _ _ | .fcvtLuD _ _ _ | .fcvtSD _ _ _ | .fcvtWD _ _ _ | .fcvtWuD _ _ _
  | .fdivD _ _ _ _ | .feqD _ _ _ | .fleD _ _ _ | .fltD _ _ _ | .fmaddD _ _ _ _ _ | .fmaxD _ _ _ | .fminD _ _ _
  | .fmsubD _ _ _ _ _ | .fmulD _ _ _ _ | .fnmaddD _ _ _ _ _ | .fnmsubD _ _ _ _ _ | .fsqrtD _ _ _
  | .fsubD _ _ _ _ => true
  | .add .. | .addi .. | .addiw .. | .addw .. | .and .. | .andi .. | .auipc .. | .lui .. | .or .. | .ori ..
  | .sll .. | .slli .. | .slliw .. | .sllw .. | .slt .. | .slti .. | .sltiu .. | .sltu .. | .sra .. | .srai ..
  | .sraiw .. | .sraw .. | .srl .. | .srli .. | .srliw .. | .srlw .. | .sub .. | .subw .. | .xor .. | .xori ..
  | .beq .. | .bge .. | .bgeu .. | .blt .. | .bltu .. | .bne .. | .jal .. | .jalr .. | .fence .. | .fenceI
  | .lb .. | .lbu .. | .ld .. | .lh .. | .lhu .. | .lw .. | .lwu .. | .sb .. | .sd .. | .sh .. | .sw ..
  | .csrrc .. | .csrrci .. | .csrrs .. | .csrrsi .. | .csrrw .. | .csrrwi .. | .ebreak | .ecall | .mret
  | .sfenceVma .. | .sret | .wfi | .div .. | .divu .. | .divuw .. | .divw .. | .mul .. | .mulh .. | .mulhsu ..
  | .mulhu .. | .mulw .. | .rem .. | .remu .. | .remuw .. | .remw .. | .amoaddD .. | .amoaddW .. | .amoandD ..
  | .amoandW .. | .amomaxD .. | .amomaxW .. | .amomaxuD .. | .amomaxuW .. | .amominD .. | .amominW ..
  | .amominuD .. | .amominuW .. | .amoorD .. | .amoorW .. | .amoswapD .. | .amoswapW .. | .amoxorD ..
  | .amoxorW .. | .lrD .. | .lrW .. | .scD .. | .scW .. | .fclassS .. | .flw .. | .fmvWX .. | .fmvXW ..
  | .fsgnjS .. | .fsgnjnS .. | .fsgnjxS .. | .fsw .. | .fclassD .. | .fcvtDW .. | .fcvtDWu .. | .fld ..
  | .fmvDX .. | .fmvXD .. | .fsd .. | .fsgnjD .. | .fsgnjnD .. | .fsgnjxD .. | .cAdd .. | .cAddi ..
  | .cAddi16sp .. | .cAddi4spn .. | .cAddiw .. | .cAddw .. | .cAnd .. | .cAndi .. | .cBeqz .. | .cBnez ..
  | .cEbreak | .cFld .. | .cFldsp .. | .cFlw .. | .cFlwsp .. | .cFsd .. | .cFsdsp .. | .cFsw .. | .cFswsp ..
  | .cJ .. | .cJal .. | .cJalr .. | .cJr .. | .cLd .. | .cLdsp .. | .cLi .. | .cLui .. | .cLw .. | .cLwsp ..
  | .cMv .. | .cOr .. | .cSd .. | .cSdsp .. | .cSlli .. | .cSrai .. | .cSrli .. | .cSub .. | .cSubw ..
  | .cSw .. | .cSwsp .. | .cXor .. => false

/-- The CSR instructions (R310). -/
def Instr.isCsr : Instr → Bool
  | .csrrc _ _ _ | .csrrci _ _ _ | .csrrs _ _ _ | .csrrsi _ _ _ | .csrrw _ _ _ | .csrrwi _ _ _ => true
  | .add .. | .addi .. | .addiw .. | .addw .. | .and .. | .andi .. | .auipc .. | .lui .. | .or .. | .ori ..
  | .sll .. | .slli .. | .slliw .. | .sllw .. | .slt .. | .slti .. | .sltiu .. | .sltu .. | .sra .. | .srai ..
  | .sraiw .. | .sraw .. | .srl .. | .srli .. | .srliw .. | .srlw .. | .sub .. | .subw .. | .xor .. | .xori ..
  | .beq .. | .bge .. | .bgeu .. | .blt .. | .bltu .. | .bne .. | .jal .. | .jalr .. | .fence .. | .fenceI
  | .lb .. | .lbu .. | .ld .. | .lh .. | .lhu .. | .lw .. | .lwu .. | .sb .. | .sd .. | .sh .. | .sw ..
  | .ebreak | .ecall | .mret | .sfenceVma .. | .sret | .wfi | .div .. | .divu .. | .divuw .. | .divw ..
  | .mul .. | .mulh .. | .mulhsu .. | .mulhu .. | .mulw .. | .rem .. | .remu .. | .remuw .. | .remw ..
  | .amoaddD .. | .amoaddW .. | .amoandD .. | .amoandW .. | .amomaxD .. | .amomaxW .. | .amomaxuD ..
  | .amomaxuW .. | .amominD .. | .amominW .. | .amominuD .. | .amominuW .. | .amoorD .. | .amoorW ..
  | .amoswapD .. | .amoswapW .. | .amoxorD .. | .amoxorW .. | .lrD .. | .lrW .. | .scD .. | .scW .. | .faddS ..
  | .fclassS .. | .fcvtLS .. | .fcvtLuS .. | .fcvtSL .. | .fcvtSLu .. | .fcvtSW .. | .fcvtSWu .. | .fcvtWS ..
  | .fcvtWuS .. | .fdivS .. | .feqS .. | .fleS .. | .fltS .. | .flw .. | .fmaddS .. | .fmaxS .. | .fminS ..
  | .fmsubS .. | .fmulS .. | .fmvWX .. | .fmvXW .. | .fnmaddS .. | .fnmsubS .. | .fsgnjS .. | .fsgnjnS ..
  | .fsgnjxS .. | .fsqrtS .. | .fsubS .. | .fsw .. | .faddD .. | .fclassD .. | .fcvtDL .. | .fcvtDLu ..
  | .fcvtDS .. | .fcvtDW .. | .fcvtDWu .. | .fcvtLD .. | .fcvtLuD .. | .fcvtSD .. | .fcvtWD .. | .fcvtWuD ..
  | .fdivD .. | .feqD .. | .fld .. | .fleD .. | .fltD .. | .fmaddD .. | .fmaxD .. | .fminD .. | .fmsubD ..
  | .fmulD .. | .fmvDX .. | .fmvXD .. | .fnmaddD .. | .fnmsubD .. | .fsd .. | .fsgnjD .. | .fsgnjnD ..
  | .fsgnjxD .. | .fsqrtD .. | .fsubD .. | .cAdd .. | .cAddi .. | .cAddi16sp .. | .cAddi4spn .. | .cAddiw ..
  | .cAddw .. | .cAnd .. | .cAndi .. | .cBeqz .. | .cBnez .. | .cEbreak | .cFld .. | .cFldsp .. | .cFlw ..
  | .cFlwsp .. | .cFsd .. | .cFsdsp .. | .cFsw .. | .cFswsp .. | .cJ .. | .cJal .. | .cJalr .. | .cJr ..
  | .cLd .. | .cLdsp .. | .cLi .. | .cLui .. | .cLw .. | .cLwsp .. | .cMv .. | .cOr .. | .cSd .. | .cSdsp ..
  | .cSlli .. | .cSrai .. | .cSrli .. | .cSub .. | .cSubw .. | .cSw .. | .cSwsp .. | .cXor .. => false

/-- The returns from a trap (R655, R656). -/
def Instr.isReturn : Instr → Bool
  | .mret | .sret => true
  | .add .. | .addi .. | .addiw .. | .addw .. | .and .. | .andi .. | .auipc .. | .lui .. | .or .. | .ori ..
  | .sll .. | .slli .. | .slliw .. | .sllw .. | .slt .. | .slti .. | .sltiu .. | .sltu .. | .sra .. | .srai ..
  | .sraiw .. | .sraw .. | .srl .. | .srli .. | .srliw .. | .srlw .. | .sub .. | .subw .. | .xor .. | .xori ..
  | .beq .. | .bge .. | .bgeu .. | .blt .. | .bltu .. | .bne .. | .jal .. | .jalr .. | .fence .. | .fenceI
  | .lb .. | .lbu .. | .ld .. | .lh .. | .lhu .. | .lw .. | .lwu .. | .sb .. | .sd .. | .sh .. | .sw ..
  | .csrrc .. | .csrrci .. | .csrrs .. | .csrrsi .. | .csrrw .. | .csrrwi .. | .ebreak | .ecall | .sfenceVma ..
  | .wfi | .div .. | .divu .. | .divuw .. | .divw .. | .mul .. | .mulh .. | .mulhsu .. | .mulhu .. | .mulw ..
  | .rem .. | .remu .. | .remuw .. | .remw .. | .amoaddD .. | .amoaddW .. | .amoandD .. | .amoandW ..
  | .amomaxD .. | .amomaxW .. | .amomaxuD .. | .amomaxuW .. | .amominD .. | .amominW .. | .amominuD ..
  | .amominuW .. | .amoorD .. | .amoorW .. | .amoswapD .. | .amoswapW .. | .amoxorD .. | .amoxorW .. | .lrD ..
  | .lrW .. | .scD .. | .scW .. | .faddS .. | .fclassS .. | .fcvtLS .. | .fcvtLuS .. | .fcvtSL .. | .fcvtSLu ..
  | .fcvtSW .. | .fcvtSWu .. | .fcvtWS .. | .fcvtWuS .. | .fdivS .. | .feqS .. | .fleS .. | .fltS .. | .flw ..
  | .fmaddS .. | .fmaxS .. | .fminS .. | .fmsubS .. | .fmulS .. | .fmvWX .. | .fmvXW .. | .fnmaddS ..
  | .fnmsubS .. | .fsgnjS .. | .fsgnjnS .. | .fsgnjxS .. | .fsqrtS .. | .fsubS .. | .fsw .. | .faddD ..
  | .fclassD .. | .fcvtDL .. | .fcvtDLu .. | .fcvtDS .. | .fcvtDW .. | .fcvtDWu .. | .fcvtLD .. | .fcvtLuD ..
  | .fcvtSD .. | .fcvtWD .. | .fcvtWuD .. | .fdivD .. | .feqD .. | .fld .. | .fleD .. | .fltD .. | .fmaddD ..
  | .fmaxD .. | .fminD .. | .fmsubD .. | .fmulD .. | .fmvDX .. | .fmvXD .. | .fnmaddD .. | .fnmsubD ..
  | .fsd .. | .fsgnjD .. | .fsgnjnD .. | .fsgnjxD .. | .fsqrtD .. | .fsubD .. | .cAdd .. | .cAddi ..
  | .cAddi16sp .. | .cAddi4spn .. | .cAddiw .. | .cAddw .. | .cAnd .. | .cAndi .. | .cBeqz .. | .cBnez ..
  | .cEbreak | .cFld .. | .cFldsp .. | .cFlw .. | .cFlwsp .. | .cFsd .. | .cFsdsp .. | .cFsw .. | .cFswsp ..
  | .cJ .. | .cJal .. | .cJalr .. | .cJr .. | .cLd .. | .cLdsp .. | .cLi .. | .cLui .. | .cLw .. | .cLwsp ..
  | .cMv .. | .cOr .. | .cSd .. | .cSdsp .. | .cSlli .. | .cSrai .. | .cSrli .. | .cSub .. | .cSubw ..
  | .cSw .. | .cSwsp .. | .cXor .. => false

/-- The rounding-mode field of an instruction that has one (R402). -/
def Instr.rm : Instr → Option (BitVec 3)
  | .faddS rm _ _ _ | .fcvtLS rm _ _ | .fcvtLuS rm _ _ | .fcvtSL rm _ _ | .fcvtSLu rm _ _ | .fcvtSW rm _ _
  | .fcvtSWu rm _ _ | .fcvtWS rm _ _ | .fcvtWuS rm _ _ | .fdivS rm _ _ _ | .fmaddS rm _ _ _ _
  | .fmsubS rm _ _ _ _ | .fmulS rm _ _ _ | .fnmaddS rm _ _ _ _ | .fnmsubS rm _ _ _ _ | .fsqrtS rm _ _
  | .fsubS rm _ _ _ | .faddD rm _ _ _ | .fcvtDL rm _ _ | .fcvtDLu rm _ _ | .fcvtDS rm _ _ | .fcvtDW rm _ _
  | .fcvtDWu rm _ _ | .fcvtLD rm _ _ | .fcvtLuD rm _ _ | .fcvtSD rm _ _ | .fcvtWD rm _ _ | .fcvtWuD rm _ _
  | .fdivD rm _ _ _ | .fmaddD rm _ _ _ _ | .fmsubD rm _ _ _ _ | .fmulD rm _ _ _ | .fnmaddD rm _ _ _ _
  | .fnmsubD rm _ _ _ _ | .fsqrtD rm _ _ | .fsubD rm _ _ _ => some rm
  | .add .. | .addi .. | .addiw .. | .addw .. | .and .. | .andi .. | .auipc .. | .lui .. | .or .. | .ori ..
  | .sll .. | .slli .. | .slliw .. | .sllw .. | .slt .. | .slti .. | .sltiu .. | .sltu .. | .sra .. | .srai ..
  | .sraiw .. | .sraw .. | .srl .. | .srli .. | .srliw .. | .srlw .. | .sub .. | .subw .. | .xor .. | .xori ..
  | .beq .. | .bge .. | .bgeu .. | .blt .. | .bltu .. | .bne .. | .jal .. | .jalr .. | .fence .. | .fenceI
  | .lb .. | .lbu .. | .ld .. | .lh .. | .lhu .. | .lw .. | .lwu .. | .sb .. | .sd .. | .sh .. | .sw ..
  | .csrrc .. | .csrrci .. | .csrrs .. | .csrrsi .. | .csrrw .. | .csrrwi .. | .ebreak | .ecall | .mret
  | .sfenceVma .. | .sret | .wfi | .div .. | .divu .. | .divuw .. | .divw .. | .mul .. | .mulh .. | .mulhsu ..
  | .mulhu .. | .mulw .. | .rem .. | .remu .. | .remuw .. | .remw .. | .amoaddD .. | .amoaddW .. | .amoandD ..
  | .amoandW .. | .amomaxD .. | .amomaxW .. | .amomaxuD .. | .amomaxuW .. | .amominD .. | .amominW ..
  | .amominuD .. | .amominuW .. | .amoorD .. | .amoorW .. | .amoswapD .. | .amoswapW .. | .amoxorD ..
  | .amoxorW .. | .lrD .. | .lrW .. | .scD .. | .scW .. | .fclassS .. | .feqS .. | .fleS .. | .fltS ..
  | .flw .. | .fmaxS .. | .fminS .. | .fmvWX .. | .fmvXW .. | .fsgnjS .. | .fsgnjnS .. | .fsgnjxS .. | .fsw ..
  | .fclassD .. | .feqD .. | .fld .. | .fleD .. | .fltD .. | .fmaxD .. | .fminD .. | .fmvDX .. | .fmvXD ..
  | .fsd .. | .fsgnjD .. | .fsgnjnD .. | .fsgnjxD .. | .cAdd .. | .cAddi .. | .cAddi16sp .. | .cAddi4spn ..
  | .cAddiw .. | .cAddw .. | .cAnd .. | .cAndi .. | .cBeqz .. | .cBnez .. | .cEbreak | .cFld .. | .cFldsp ..
  | .cFlw .. | .cFlwsp .. | .cFsd .. | .cFsdsp .. | .cFsw .. | .cFswsp .. | .cJ .. | .cJal .. | .cJalr ..
  | .cJr .. | .cLd .. | .cLdsp .. | .cLi .. | .cLui .. | .cLw .. | .cLwsp .. | .cMv .. | .cOr .. | .cSd ..
  | .cSdsp .. | .cSlli .. | .cSrai .. | .cSrli .. | .cSub .. | .cSubw .. | .cSw .. | .cSwsp .. | .cXor .. => none

end Sys2Proof

namespace Sys2Proof.Machine

open Sys2Proof

/-- The address and the number of bytes of a load (R95, R280, R500), lr apart. -/
def State.loads (s : State) : Instr → Option (Word × Nat)
  | .lb _ rs1 offset | .lbu _ rs1 offset => some (s.address rs1 offset.toInt, 1)
  | .ld _ rs1 offset | .fld _ rs1 offset => some (s.address rs1 offset.toInt, 8)
  | .lh _ rs1 offset | .lhu _ rs1 offset => some (s.address rs1 offset.toInt, 2)
  | .lw _ rs1 offset | .lwu _ rs1 offset | .flw _ rs1 offset => some (s.address rs1 offset.toInt, 4)
  | .cFld _ rs1 uimm | .cLd _ rs1 uimm => some (s.address (creg rs1) uimm.toNat, 8)
  | .cFldsp _ uimm | .cLdsp _ uimm => some (s.address 2 uimm.toNat, 8)
  | .cFlw _ rs1 uimm | .cLw _ rs1 uimm => some (s.address (creg rs1) uimm.toNat, 4)
  | .cFlwsp _ uimm | .cLwsp _ uimm => some (s.address 2 uimm.toNat, 4)
  | .add .. | .addi .. | .addiw .. | .addw .. | .and .. | .andi .. | .auipc .. | .lui .. | .or .. | .ori ..
  | .sll .. | .slli .. | .slliw .. | .sllw .. | .slt .. | .slti .. | .sltiu .. | .sltu .. | .sra .. | .srai ..
  | .sraiw .. | .sraw .. | .srl .. | .srli .. | .srliw .. | .srlw .. | .sub .. | .subw .. | .xor .. | .xori ..
  | .beq .. | .bge .. | .bgeu .. | .blt .. | .bltu .. | .bne .. | .jal .. | .jalr .. | .fence .. | .fenceI
  | .sb .. | .sd .. | .sh .. | .sw .. | .csrrc .. | .csrrci .. | .csrrs .. | .csrrsi .. | .csrrw ..
  | .csrrwi .. | .ebreak | .ecall | .mret | .sfenceVma .. | .sret | .wfi | .div .. | .divu .. | .divuw ..
  | .divw .. | .mul .. | .mulh .. | .mulhsu .. | .mulhu .. | .mulw .. | .rem .. | .remu .. | .remuw ..
  | .remw .. | .amoaddD .. | .amoaddW .. | .amoandD .. | .amoandW .. | .amomaxD .. | .amomaxW .. | .amomaxuD ..
  | .amomaxuW .. | .amominD .. | .amominW .. | .amominuD .. | .amominuW .. | .amoorD .. | .amoorW ..
  | .amoswapD .. | .amoswapW .. | .amoxorD .. | .amoxorW .. | .lrD .. | .lrW .. | .scD .. | .scW .. | .faddS ..
  | .fclassS .. | .fcvtLS .. | .fcvtLuS .. | .fcvtSL .. | .fcvtSLu .. | .fcvtSW .. | .fcvtSWu .. | .fcvtWS ..
  | .fcvtWuS .. | .fdivS .. | .feqS .. | .fleS .. | .fltS .. | .fmaddS .. | .fmaxS .. | .fminS .. | .fmsubS ..
  | .fmulS .. | .fmvWX .. | .fmvXW .. | .fnmaddS .. | .fnmsubS .. | .fsgnjS .. | .fsgnjnS .. | .fsgnjxS ..
  | .fsqrtS .. | .fsubS .. | .fsw .. | .faddD .. | .fclassD .. | .fcvtDL .. | .fcvtDLu .. | .fcvtDS ..
  | .fcvtDW .. | .fcvtDWu .. | .fcvtLD .. | .fcvtLuD .. | .fcvtSD .. | .fcvtWD .. | .fcvtWuD .. | .fdivD ..
  | .feqD .. | .fleD .. | .fltD .. | .fmaddD .. | .fmaxD .. | .fminD .. | .fmsubD .. | .fmulD .. | .fmvDX ..
  | .fmvXD .. | .fnmaddD .. | .fnmsubD .. | .fsd .. | .fsgnjD .. | .fsgnjnD .. | .fsgnjxD .. | .fsqrtD ..
  | .fsubD .. | .cAdd .. | .cAddi .. | .cAddi16sp .. | .cAddi4spn .. | .cAddiw .. | .cAddw .. | .cAnd ..
  | .cAndi .. | .cBeqz .. | .cBnez .. | .cEbreak | .cFsd .. | .cFsdsp .. | .cFsw .. | .cFswsp .. | .cJ ..
  | .cJal .. | .cJalr .. | .cJr .. | .cLi .. | .cLui .. | .cMv .. | .cOr .. | .cSd .. | .cSdsp .. | .cSlli ..
  | .cSrai .. | .cSrli .. | .cSub .. | .cSubw .. | .cSw .. | .cSwsp .. | .cXor .. => none

/-- The address and the number of bytes of a store (R95, R280, R500), atomics apart. -/
def State.stores (s : State) : Instr → Option (Word × Nat)
  | .sb _ rs1 offset => some (s.address rs1 offset.toInt, 1)
  | .sd _ rs1 offset | .fsd _ rs1 offset => some (s.address rs1 offset.toInt, 8)
  | .sh _ rs1 offset => some (s.address rs1 offset.toInt, 2)
  | .sw _ rs1 offset | .fsw _ rs1 offset => some (s.address rs1 offset.toInt, 4)
  | .cFsd _ rs1 uimm | .cSd _ rs1 uimm => some (s.address (creg rs1) uimm.toNat, 8)
  | .cFsdsp _ uimm | .cSdsp _ uimm => some (s.address 2 uimm.toNat, 8)
  | .cFsw _ rs1 uimm | .cSw _ rs1 uimm => some (s.address (creg rs1) uimm.toNat, 4)
  | .cFswsp _ uimm | .cSwsp _ uimm => some (s.address 2 uimm.toNat, 4)
  | .add .. | .addi .. | .addiw .. | .addw .. | .and .. | .andi .. | .auipc .. | .lui .. | .or .. | .ori ..
  | .sll .. | .slli .. | .slliw .. | .sllw .. | .slt .. | .slti .. | .sltiu .. | .sltu .. | .sra .. | .srai ..
  | .sraiw .. | .sraw .. | .srl .. | .srli .. | .srliw .. | .srlw .. | .sub .. | .subw .. | .xor .. | .xori ..
  | .beq .. | .bge .. | .bgeu .. | .blt .. | .bltu .. | .bne .. | .jal .. | .jalr .. | .fence .. | .fenceI
  | .lb .. | .lbu .. | .ld .. | .lh .. | .lhu .. | .lw .. | .lwu .. | .csrrc .. | .csrrci .. | .csrrs ..
  | .csrrsi .. | .csrrw .. | .csrrwi .. | .ebreak | .ecall | .mret | .sfenceVma .. | .sret | .wfi | .div ..
  | .divu .. | .divuw .. | .divw .. | .mul .. | .mulh .. | .mulhsu .. | .mulhu .. | .mulw .. | .rem ..
  | .remu .. | .remuw .. | .remw .. | .amoaddD .. | .amoaddW .. | .amoandD .. | .amoandW .. | .amomaxD ..
  | .amomaxW .. | .amomaxuD .. | .amomaxuW .. | .amominD .. | .amominW .. | .amominuD .. | .amominuW ..
  | .amoorD .. | .amoorW .. | .amoswapD .. | .amoswapW .. | .amoxorD .. | .amoxorW .. | .lrD .. | .lrW ..
  | .scD .. | .scW .. | .faddS .. | .fclassS .. | .fcvtLS .. | .fcvtLuS .. | .fcvtSL .. | .fcvtSLu ..
  | .fcvtSW .. | .fcvtSWu .. | .fcvtWS .. | .fcvtWuS .. | .fdivS .. | .feqS .. | .fleS .. | .fltS .. | .flw ..
  | .fmaddS .. | .fmaxS .. | .fminS .. | .fmsubS .. | .fmulS .. | .fmvWX .. | .fmvXW .. | .fnmaddS ..
  | .fnmsubS .. | .fsgnjS .. | .fsgnjnS .. | .fsgnjxS .. | .fsqrtS .. | .fsubS .. | .faddD .. | .fclassD ..
  | .fcvtDL .. | .fcvtDLu .. | .fcvtDS .. | .fcvtDW .. | .fcvtDWu .. | .fcvtLD .. | .fcvtLuD .. | .fcvtSD ..
  | .fcvtWD .. | .fcvtWuD .. | .fdivD .. | .feqD .. | .fld .. | .fleD .. | .fltD .. | .fmaddD .. | .fmaxD ..
  | .fminD .. | .fmsubD .. | .fmulD .. | .fmvDX .. | .fmvXD .. | .fnmaddD .. | .fnmsubD .. | .fsgnjD ..
  | .fsgnjnD .. | .fsgnjxD .. | .fsqrtD .. | .fsubD .. | .cAdd .. | .cAddi .. | .cAddi16sp .. | .cAddi4spn ..
  | .cAddiw .. | .cAddw .. | .cAnd .. | .cAndi .. | .cBeqz .. | .cBnez .. | .cEbreak | .cFld .. | .cFldsp ..
  | .cFlw .. | .cFlwsp .. | .cJ .. | .cJal .. | .cJalr .. | .cJr .. | .cLd .. | .cLdsp .. | .cLi .. | .cLui ..
  | .cLw .. | .cLwsp .. | .cMv .. | .cOr .. | .cSlli .. | .cSrai .. | .cSrli .. | .cSub .. | .cSubw ..
  | .cXor .. => none

/-- The value of which a store writes the low bytes (R280 c, R434, R477, R500); 0 for an instruction that is none. -/
def State.storeData (s : State) : Instr → Word
  | .sb rs2 _ _ | .sh rs2 _ _ | .sw rs2 _ _ | .sd rs2 _ _ | .cSwsp rs2 _ | .cSdsp rs2 _ => s.getX rs2
  | .fsw rs2 _ _ | .fsd rs2 _ _ | .cFswsp rs2 _ | .cFsdsp rs2 _ => s.getF rs2
  | .cSw rs2 _ _ | .cSd rs2 _ _ => s.getX (creg rs2)
  | .cFsw rs2 _ _ | .cFsd rs2 _ _ => s.getF (creg rs2)
  | .add .. | .addi .. | .addiw .. | .addw .. | .and .. | .andi .. | .auipc .. | .lui .. | .or .. | .ori ..
  | .sll .. | .slli .. | .slliw .. | .sllw .. | .slt .. | .slti .. | .sltiu .. | .sltu .. | .sra .. | .srai ..
  | .sraiw .. | .sraw .. | .srl .. | .srli .. | .srliw .. | .srlw .. | .sub .. | .subw .. | .xor .. | .xori ..
  | .beq .. | .bge .. | .bgeu .. | .blt .. | .bltu .. | .bne .. | .jal .. | .jalr .. | .fence .. | .fenceI
  | .lb .. | .lbu .. | .ld .. | .lh .. | .lhu .. | .lw .. | .lwu .. | .csrrc .. | .csrrci .. | .csrrs ..
  | .csrrsi .. | .csrrw .. | .csrrwi .. | .ebreak | .ecall | .mret | .sfenceVma .. | .sret | .wfi | .div ..
  | .divu .. | .divuw .. | .divw .. | .mul .. | .mulh .. | .mulhsu .. | .mulhu .. | .mulw .. | .rem ..
  | .remu .. | .remuw .. | .remw .. | .amoaddD .. | .amoaddW .. | .amoandD .. | .amoandW .. | .amomaxD ..
  | .amomaxW .. | .amomaxuD .. | .amomaxuW .. | .amominD .. | .amominW .. | .amominuD .. | .amominuW ..
  | .amoorD .. | .amoorW .. | .amoswapD .. | .amoswapW .. | .amoxorD .. | .amoxorW .. | .lrD .. | .lrW ..
  | .scD .. | .scW .. | .faddS .. | .fclassS .. | .fcvtLS .. | .fcvtLuS .. | .fcvtSL .. | .fcvtSLu ..
  | .fcvtSW .. | .fcvtSWu .. | .fcvtWS .. | .fcvtWuS .. | .fdivS .. | .feqS .. | .fleS .. | .fltS .. | .flw ..
  | .fmaddS .. | .fmaxS .. | .fminS .. | .fmsubS .. | .fmulS .. | .fmvWX .. | .fmvXW .. | .fnmaddS ..
  | .fnmsubS .. | .fsgnjS .. | .fsgnjnS .. | .fsgnjxS .. | .fsqrtS .. | .fsubS .. | .faddD .. | .fclassD ..
  | .fcvtDL .. | .fcvtDLu .. | .fcvtDS .. | .fcvtDW .. | .fcvtDWu .. | .fcvtLD .. | .fcvtLuD .. | .fcvtSD ..
  | .fcvtWD .. | .fcvtWuD .. | .fdivD .. | .feqD .. | .fld .. | .fleD .. | .fltD .. | .fmaddD .. | .fmaxD ..
  | .fminD .. | .fmsubD .. | .fmulD .. | .fmvDX .. | .fmvXD .. | .fnmaddD .. | .fnmsubD .. | .fsgnjD ..
  | .fsgnjnD .. | .fsgnjxD .. | .fsqrtD .. | .fsubD .. | .cAdd .. | .cAddi .. | .cAddi16sp .. | .cAddi4spn ..
  | .cAddiw .. | .cAddw .. | .cAnd .. | .cAndi .. | .cBeqz .. | .cBnez .. | .cEbreak | .cFld .. | .cFldsp ..
  | .cFlw .. | .cFlwsp .. | .cJ .. | .cJal .. | .cJalr .. | .cJr .. | .cLd .. | .cLdsp .. | .cLi .. | .cLui ..
  | .cLw .. | .cLwsp .. | .cMv .. | .cOr .. | .cSlli .. | .cSrai .. | .cSrli .. | .cSub .. | .cSubw ..
  | .cXor .. => 0

/-- The address and the number of bytes of an sc or an AMO (R360). -/
def State.atomics (s : State) : Instr → Option (Word × Nat)
  | .amoaddD _ _ _ rs1 _ | .amoandD _ _ _ rs1 _ | .amomaxD _ _ _ rs1 _ | .amomaxuD _ _ _ rs1 _
  | .amominD _ _ _ rs1 _ | .amominuD _ _ _ rs1 _ | .amoorD _ _ _ rs1 _ | .amoswapD _ _ _ rs1 _
  | .amoxorD _ _ _ rs1 _ | .scD _ _ _ rs1 _ => some (s.getX rs1, 8)
  | .amoaddW _ _ _ rs1 _ | .amoandW _ _ _ rs1 _ | .amomaxW _ _ _ rs1 _ | .amomaxuW _ _ _ rs1 _
  | .amominW _ _ _ rs1 _ | .amominuW _ _ _ rs1 _ | .amoorW _ _ _ rs1 _ | .amoswapW _ _ _ rs1 _
  | .amoxorW _ _ _ rs1 _ | .scW _ _ _ rs1 _ => some (s.getX rs1, 4)
  | .add .. | .addi .. | .addiw .. | .addw .. | .and .. | .andi .. | .auipc .. | .lui .. | .or .. | .ori ..
  | .sll .. | .slli .. | .slliw .. | .sllw .. | .slt .. | .slti .. | .sltiu .. | .sltu .. | .sra .. | .srai ..
  | .sraiw .. | .sraw .. | .srl .. | .srli .. | .srliw .. | .srlw .. | .sub .. | .subw .. | .xor .. | .xori ..
  | .beq .. | .bge .. | .bgeu .. | .blt .. | .bltu .. | .bne .. | .jal .. | .jalr .. | .fence .. | .fenceI
  | .lb .. | .lbu .. | .ld .. | .lh .. | .lhu .. | .lw .. | .lwu .. | .sb .. | .sd .. | .sh .. | .sw ..
  | .csrrc .. | .csrrci .. | .csrrs .. | .csrrsi .. | .csrrw .. | .csrrwi .. | .ebreak | .ecall | .mret
  | .sfenceVma .. | .sret | .wfi | .div .. | .divu .. | .divuw .. | .divw .. | .mul .. | .mulh .. | .mulhsu ..
  | .mulhu .. | .mulw .. | .rem .. | .remu .. | .remuw .. | .remw .. | .lrD .. | .lrW .. | .faddS ..
  | .fclassS .. | .fcvtLS .. | .fcvtLuS .. | .fcvtSL .. | .fcvtSLu .. | .fcvtSW .. | .fcvtSWu .. | .fcvtWS ..
  | .fcvtWuS .. | .fdivS .. | .feqS .. | .fleS .. | .fltS .. | .flw .. | .fmaddS .. | .fmaxS .. | .fminS ..
  | .fmsubS .. | .fmulS .. | .fmvWX .. | .fmvXW .. | .fnmaddS .. | .fnmsubS .. | .fsgnjS .. | .fsgnjnS ..
  | .fsgnjxS .. | .fsqrtS .. | .fsubS .. | .fsw .. | .faddD .. | .fclassD .. | .fcvtDL .. | .fcvtDLu ..
  | .fcvtDS .. | .fcvtDW .. | .fcvtDWu .. | .fcvtLD .. | .fcvtLuD .. | .fcvtSD .. | .fcvtWD .. | .fcvtWuD ..
  | .fdivD .. | .feqD .. | .fld .. | .fleD .. | .fltD .. | .fmaddD .. | .fmaxD .. | .fminD .. | .fmsubD ..
  | .fmulD .. | .fmvDX .. | .fmvXD .. | .fnmaddD .. | .fnmsubD .. | .fsd .. | .fsgnjD .. | .fsgnjnD ..
  | .fsgnjxD .. | .fsqrtD .. | .fsubD .. | .cAdd .. | .cAddi .. | .cAddi16sp .. | .cAddi4spn .. | .cAddiw ..
  | .cAddw .. | .cAnd .. | .cAndi .. | .cBeqz .. | .cBnez .. | .cEbreak | .cFld .. | .cFldsp .. | .cFlw ..
  | .cFlwsp .. | .cFsd .. | .cFsdsp .. | .cFsw .. | .cFswsp .. | .cJ .. | .cJal .. | .cJalr .. | .cJr ..
  | .cLd .. | .cLdsp .. | .cLi .. | .cLui .. | .cLw .. | .cLwsp .. | .cMv .. | .cOr .. | .cSd .. | .cSdsp ..
  | .cSlli .. | .cSrai .. | .cSrli .. | .cSub .. | .cSubw .. | .cSw .. | .cSwsp .. | .cXor .. => none

/-- What an instruction that retires leaves as it was, its own operands' places apart: x, f and flags it does not name,
every mode, control and exception register, and with `i.accrues` and `i.fDest` false and none all of mstatus. -/
def Keeps (i : Instr) (s t : State) : Prop :=
  t.cfg = s.cfg ∧
  (∀ r, i.xDest ≠ some r → t.getX r = s.getX r) ∧
  (∀ r, i.fDest ≠ some r → t.getF r = s.getF r) ∧
  (i.accrues = false → t.fflags = s.fflags) ∧
  (i.accrues = false → i.fDest = none → t.mstatus = s.mstatus) ∧
  t.mstatus = { s.mstatus with fs := t.mstatus.fs } ∧
  t.frm = s.frm ∧ t.priv = s.priv ∧
  t.mepc = s.mepc ∧ t.sepc = s.sepc ∧ t.mcause = s.mcause ∧ t.mtval = s.mtval ∧ t.mscratch = s.mscratch ∧
  t.mtvec = s.mtvec ∧ t.scause = s.scause ∧ t.stval = s.stval ∧ t.sscratch = s.sscratch ∧ t.stvec = s.stvec ∧
  t.mie = s.mie ∧ t.mip = s.mip ∧ t.lines = s.lines ∧ t.mcounteren = s.mcounteren ∧ t.scounteren = s.scounteren ∧
  t.mcycle = s.mcycle ∧ t.mtime = s.mtime ∧ t.drawIndex = s.drawIndex ∧
  (i ≠ .fenceI → t.imem = s.imem)

end Sys2Proof.Machine
end

