-- ==== Sys2Proof/Safety.lean ====
section
/-!
DEFINITION. Sys2Proof/Safety.lean: what counts as a safe run, and the invariant of the machine.
-/
namespace Sys2Proof.Machine

open Sys2Proof

/-- The step or meaning has a next state. -/
def Runs (r : Result) : Prop := ∃ t, r = .next t

/-- A run of k steps ends in neither a fault nor a refusal. -/
def SafeFor (k : Nat) (s : State) : Prop := ∃ t, Sys2Proof.core.run k s = .next t

/-- A value fits XLEN bits (log 10). -/
def State.fits (s : State) (v : Word) : Bool := s.norm v == v

/-- The parameters are ones the spec allows: D needs F, S needs U, SC_FAIL_CODE is not zero in XLEN bits (R6), and IRQ is
empty under TrapModel = terminal (R669). -/
def Params.legal (p : Params) : Bool :=
  (!p.extD || p.extF) && (!p.hasS || p.hasU) && Params.norm p p.scFailCode != 0 &&
    (p.trapModel == .full || !Params.hasIrq p)

/-- RESET_PC is an address of XLEN bits and a multiple of IALIGN/8 (R25, R45, R701). -/
def Params.bootable (p : Params) : Bool :=
  Params.norm p p.resetPc == p.resetPc &&
    (if p.extC then bits p.resetPc 0 1 == 0#1 else bits p.resetPc 0 2 == 0#2)

/-- pc is the address of an instruction: a multiple of IALIGN/8 (R25). -/
def State.pcAligned (s : State) : Bool := !s.badTarget s.pc

/-- The privilege mode, and the mode a return would restore, exist (R34, R40). -/
def State.modesExist (s : State) : Bool := Params.hasMode s.cfg s.priv && Params.hasMode s.cfg s.mstatus.mpp

/-- mepc and sepc hold an instruction address (R35, R36). -/
def State.epcsMasked (s : State) : Bool := s.epcOf s.mepc == s.mepc && s.epcOf s.sepc == s.sepc

/-- The MODE of a trap vector is 0 or 1 (R38). -/
def State.vectorsLegal (s : State) : Bool := !s.mtvec.getLsbD 1 && !s.stvec.getLsbD 1

/-- Every XLEN-bit register fits XLEN bits (R21, R25, R38). -/
def State.registersFit (s : State) : Bool :=
  s.x.all s.fits && s.fits s.pc && s.fits s.mepc && s.fits s.sepc && s.fits s.mcause && s.fits s.mtval &&
  s.fits s.mscratch && s.fits s.mtvec && s.fits s.scause && s.fits s.stval && s.fits s.sscratch && s.fits s.stvec

/-- Memory, now and at the last fence.i, is in its canonical form. -/
def State.memoryCanonical (s : State) : Bool := Memory.wf s.mem && Memory.wf s.imem

/-- The invariant every step keeps. -/
abbrev State.Inv (s : State) : Prop :=
  Params.legal s.cfg = true ∧ s.pcAligned = true ∧ s.modesExist = true ∧ s.epcsMasked = true ∧
  s.vectorsLegal = true ∧ s.registersFit = true ∧ s.memoryCanonical = true

end Sys2Proof.Machine
end

