-- ==== Sys2Proof/Certificates/Slice0/Obligations.lean ====
section
/-!
DEFINITION. Sys2Proof/Certificates/Slice0/Obligations.lean: the statements about this machine. Their terms are those of
Sys2Proof/Machine/Terms.lean and Sys2Proof/Safety.lean.

A meaning that completes ends in a state written with `wrote`, `stored`, `jumped`, `linked`, `passed` and their like; a
statement that says `exec i s = .next t` for such a t says that the instruction completes, and with which state.
-/

open Sys2Proof Sys2Proof.Machine

/-! ## Encoding -/

/-- R120 to R163, R176: the bits of a well-formed instruction decode to it, at every XLEN that has it. -/
def Obligations.EncodedInstructionsDecode : Prop :=
  ∀ (x : Xlen) (i : Instr), i.wf = true → (i.xlenOnly = none ∨ i.xlenOnly = some x) → decode x (encode i) = .instr i

/-- R120 to R163, R176: what decodes to an instruction is that instruction's encoding, and it is well-formed. -/
def Obligations.DecodedInstructionsEncode : Prop :=
  ∀ (x : Xlen) (c : Code) (i : Instr), decode x c = .instr i → encode i = c ∧ i.wf = true

/-- R201, R202, R212, R261, R267, R283, R293, R315, R341, R362, R405, R514, R532: encodings written out from their rules. -/
def Obligations.WordsOfTheSpecDecode : Prop :=
  ∀ x : Xlen,
    decode x (.word 0b0000000_00010_00001_000_00011_0110011#32) = .instr (.add 3 1 2) ∧
    decode x (.word 0b111111111111_00110_000_00101_0010011#32) = .instr (.addi 5 6 (-1)) ∧
    decode x (.word 0b0_000000_00010_00001_000_1000_0_1100011#32) = .instr (.beq 1 2 16) ∧
    decode x (.word 0b111111111111_00110_000_00101_0000011#32) = .instr (.lb 5 6 (-1)) ∧
    decode x (.word 0b001100000000_00110_001_00101_1110011#32) = .instr (.csrrw 5 0x300 6) ∧
    decode x (.word 0b0000001_00111_00110_100_00101_0110011#32) = .instr (.div 5 6 7) ∧
    decode x (.word 0b00000_0_0_00111_00110_010_00101_0101111#32) = .instr (.amoaddW false false 5 6 7) ∧
    decode x (.word 0b0000000_00010_00001_000_00011_1010011#32) = .instr (.faddS 0 3 1 2) ∧
    decode x (.half 0b100_1_00000_00000_10#16) = .instr .cEbreak

/-- R643 (a), R502: the compressed encodings the source calls illegal, the all-zero halfword and the all-ones word.
That the all-ones word is illegal is the spec's decision D12. -/
def Obligations.IllegalEncodingsAreRejected : Prop :=
  ∀ (x : Xlen) (h : BitVec 16),
    ((bits h 0 2 = 0b00#2 ∧ bits h 13 3 = 0b000#3 ∧ bits h 5 8 = 0#8) ∨
     (bits h 0 2 = 0b01#2 ∧ bits h 13 3 = 0b011#3 ∧ bits h 12 1 = 0#1 ∧ bits h 2 5 = 0#5) ∨
     (bits h 0 2 = 0b10#2 ∧ bits h 13 3 = 0b010#3 ∧ bits h 7 5 = 0#5) ∨
     (x = .rv64 ∧ bits h 0 2 = 0b10#2 ∧ bits h 13 3 = 0b011#3 ∧ bits h 7 5 = 0#5) ∨
     (x = .rv64 ∧ bits h 0 2 = 0b01#2 ∧ bits h 13 3 = 0b001#3 ∧ bits h 7 5 = 0#5) ∨
     (bits h 0 2 = 0b10#2 ∧ bits h 12 4 = 0b1000#4 ∧ bits h 7 5 = 0#5 ∧ bits h 2 5 = 0#5) ∨
     (bits h 0 2 = 0b10#2 ∧ bits h 12 4 = 0b1001#4 ∧ bits h 7 5 = 0#5 ∧ bits h 2 5 ≠ 0#5)) →
    (∃ r, decode x (.half h) = .reject r) ∧ (∃ r, decode x (.word 0xFFFFFFFF#32) = .reject r)

/-- R136, R137, R139: the fields of a word from which the immediates of stores, branches and jal are assembled, and the
values these have, sign-extended to XLEN. -/
def Obligations.OffsetsAreAssembledFromFields : Prop :=
  ∀ (s : State) (x : Xlen) (w : BitVec 32) (rs1 rs2 rd : Reg) (f2 : FReg) (st : BitVec 12) (br : BitVec 13) (j : BitVec 21),
    (decode x (.word w) ∈ [Decoded.instr (.sb rs2 rs1 st), .instr (.sh rs2 rs1 st), .instr (.sw rs2 rs1 st),
        .instr (.sd rs2 rs1 st), .instr (.fsw f2 rs1 st), .instr (.fsd f2 rs1 st)] →
      st = bits w 25 7 ++ bits w 7 5) ∧
    (decode x (.word w) ∈ [Decoded.instr (.beq rs1 rs2 br), .instr (.bne rs1 rs2 br), .instr (.blt rs1 rs2 br),
        .instr (.bge rs1 rs2 br), .instr (.bltu rs1 rs2 br), .instr (.bgeu rs1 rs2 br)] →
      br = bits w 31 1 ++ bits w 7 1 ++ bits w 25 6 ++ bits w 8 4 ++ 0#1 ∧ br.toInt % 2 = 0 ∧
        -4096 ≤ br.toInt ∧ br.toInt ≤ 4094) ∧
    (decode x (.word w) = .instr (.jal rd j) →
      j = bits w 31 1 ++ bits w 12 8 ++ bits w 20 1 ++ bits w 21 10 ++ 0#1 ∧ j.toInt % 2 = 0 ∧
        -1048576 ≤ j.toInt ∧ j.toInt ≤ 1048574) ∧
    (-2048 ≤ st.toInt ∧ st.toInt ≤ 2047) ∧
    s.sext st = s.word st.toInt ∧ s.sext br = s.word br.toInt ∧ s.sext j = s.word j.toInt

/-! ## A step -/

/-- R26, R37, R176: with no interrupt to take, a step runs the instruction its fetch decodes to, and then moves mcycle
and mtime on by CYCLES and the free values to their next draw; with the levels of the lines pinned (log 14) the state
it runs in is the state before the step. The model's choices are CYCLES itself (log 13), that mtime is a counter of its
own which moves on with mcycle (log 15), that mcycle moves on even after a step that writes it (log 16), and the draw
index (log 31). -/
def Obligations.StepRunsDecodedInstruction : Prop :=
  ∀ (s : State) (c : Code) (i : Instr),
    s.sampleLines.interruptTaken = none → s.sampleLines.fetch = .code c →
    decode s.cfg.xlen c = .instr i →
    (s.cfg.lineChoice = .pinned → s.sampleLines = s) ∧
    (∀ u, exec i s.sampleLines = .next u →
      step s = .next { u with
        mcycle := u.mcycle + u.cycles, mtime := u.mtime + u.cycles, drawIndex := u.drawIndex + 1 }) ∧
    (∀ r, exec i s.sampleLines = .fault r → step s = .fault r) ∧
    (∀ r, exec i s.sampleLines = .refused r → step s = .refused r)

/-- R72, R77, R93, R120: a fetch gives the halfword at pc, or the word when bits 1:0 of that halfword are 11. Each parcel
is that of memory as it is or as it was at the last fence.i, and of memory as it is where the two agree. Under the
model's choice `fetchChoice = .pinned` (log 12) it is always of memory as it is; that the old bytes are those of the last
fence.i is log 12 too. Parcels, byte order and stale fetches are the spec's decisions D3, D7 and D9. -/
def Obligations.FetchAssemblesParcels : Prop :=
  ∀ (s : State),
    let now : Word → BitVec 16 := fun a => s.byte (a + 1) ++ s.byte a
    let old : Word → BitVec 16 := fun a =>
      Memory.read s.imem (s.norm (a + 1)).toNat ++ Memory.read s.imem (s.norm a).toNat
    let gives := fun low high : BitVec 16 =>
      (s.grantedAll .fetch s.pc 2 → bits low 0 2 ≠ 0b11#2 → s.fetch = .code (.half low)) ∧
      (s.grantedAll .fetch s.pc 4 → bits low 0 2 = 0b11#2 → s.fetch = .code (.word (high ++ low)))
    (s.cfg.fetchChoice = .pinned → gives (now s.pc) (now (s.pc + 2))) ∧
    (let low := s.parcel s.pc (s.stale false)
     let high := s.parcel (s.pc + 2) (s.stale true)
     (low = now s.pc ∨ low = old s.pc) ∧ (high = now (s.pc + 2) ∨ high = old (s.pc + 2)) ∧ gives low high) ∧
    (old s.pc = now s.pc → old (s.pc + 2) = now (s.pc + 2) → gives (now s.pc) (now (s.pc + 2)))

/-- R642 (a), (b), R77, R81: a fetch from a forbidden byte, of the first parcel or of the second when bits 1:0 of the
first are 11, is InstructionAccessFault with pc as value; bits that are no instruction are IllegalInstruction with the
bits as value. Names, codes and values are the spec's decisions D7 and D12. -/
def Obligations.FetchAndDecodeExceptions : Prop :=
  ∀ (s : State), s.cfg.trapModel = .full → s.sampleLines.interruptTaken = none →
    ((s.forbidden .fetch s.pc = true ∨ s.forbidden .fetch (s.pc + 1) = true) →
      step s = .next (s.sampleLines.enterTrap false 1 s.pc).tick) ∧
    (s.grantedAll .fetch s.pc 2 → bits (s.parcel s.pc (s.stale false)) 0 2 = 0b11#2 →
      (s.forbidden .fetch (s.pc + 2) = true ∨ s.forbidden .fetch (s.pc + 3) = true) →
      step s = .next (s.sampleLines.enterTrap false 1 s.pc).tick) ∧
    (∀ c r, s.sampleLines.fetch = .code c → decode s.cfg.xlen c = .reject r →
      step s = .next (s.sampleLines.enterTrap false 2 c.value).tick)

/-- R649, R651, R652: which interrupt a step takes, and that taking it is the whole step. Sources, enables and order
are the spec's decisions D17 and D18; with IRQ empty mip reads 0 and no interrupt is ever taken (R42, D18), the software
bits of R38 and R648 included (the model's reading, log 38). That a qualified interrupt is taken at this very step is the
model's choice (log 29): R649 says that a model may delay taking it by a bounded number of steps. -/
def Obligations.InterruptsAreTakenInOrder : Prop :=
  ∀ (s : State),
    let on : Prop := s.priv ≠ .machine ∨ s.mstatus.mie = true
    let ready : Nat → Prop := fun c => s.readMip.getLsbD c = true ∧ s.readMie.getLsbD c = true
    (s.cfg.irqMSI = false → s.cfg.irqMTI = false → s.cfg.irqMEI = false →
      s.readMip = 0 ∧ s.readSip = 0 ∧ s.interruptTaken = none) ∧
    (¬ on → s.interruptTaken = none) ∧
    (on → ready 11 → s.interruptTaken = some 11) ∧
    (on → ¬ ready 11 → ready 3 → s.interruptTaken = some 3) ∧
    (on → ¬ ready 11 → ¬ ready 3 → ready 7 → s.interruptTaken = some 7) ∧
    (on → ¬ ready 11 → ¬ ready 3 → ¬ ready 7 → ready 9 → s.interruptTaken = some 9) ∧
    (on → ¬ ready 11 → ¬ ready 3 → ¬ ready 7 → ¬ ready 9 → ready 1 → s.interruptTaken = some 1) ∧
    (on → ¬ ready 11 → ¬ ready 3 → ¬ ready 7 → ¬ ready 9 → ¬ ready 1 → ready 5 → s.interruptTaken = some 5) ∧
    (¬ ready 11 → ¬ ready 3 → ¬ ready 7 → ¬ ready 9 → ¬ ready 1 → ¬ ready 5 → s.interruptTaken = none) ∧
    (∀ c, s.cfg.trapModel = .full → s.sampleLines.interruptTaken = some c →
      step s = .next (s.sampleLines.enterTrap true c 0).tick)

/-! ## The invariant -/

/-- The invariant of Safety.lean holds right after reset, for all parameters R6 allows and RESET_PC as R45 and R701
require it. The parameters of `State.reset` are the model's choice (log 2), and so are the reset values of the registers
R45 leaves unspecified (log 3 to 8). -/
def Obligations.InvariantHoldsAtReset : Prop :=
  State.reset.Inv ∧ ∀ p : Params, Params.legal p = true → Params.bootable p = true → (State.resetOf p).Inv

/-- R25, R35, R36, R38, R40: every step keeps the invariant: pc aligned to IALIGN, existing modes in priv and MPP,
masked mepc and sepc, legal trap-vector modes, XLEN-bit registers, memory in its canonical form. The forms of pc,
mepc, sepc and the trap vectors are the spec's decisions (R25, R35, R38); the canonical form of memory is the model's.
-/
def Obligations.StepKeepsInvariant : Prop := ∀ s t : State, s.Inv → step s = .next t → t.Inv

/-- R6, R37: a step changes no parameter, moves mtime on by CYCLES, and moves the free values to the next draw (log 15,
log 31: a counter of its own for mtime, and the draw index, are the model's). -/
def Obligations.StepKeepsParametersAndMovesTime : Prop :=
  ∀ s t : State, step s = .next t →
    t.cfg = s.cfg ∧ t.mtime = s.mtime + s.cycles ∧ t.drawIndex = s.drawIndex + 1 ∧
    (s.cfg.cycleChoice = .pinned → t.mtime = s.mtime + 1)

/-- R40, R661: no instruction but mret and sret changes the mode, except by raising an exception, which enters M-mode.
What trap entry saves is the spec's decision D15. -/
def Obligations.ModeChangesOnlyByTrapsAndReturns : Prop :=
  ∀ (i : Instr) (s t : State), i.isReturn = false → exec i s = .next t →
    t.priv = s.priv ∨
      (t.priv = .machine ∧ t.mstatus.mpp = s.priv ∧ t.mepc = s.epcOf s.pc ∧ t.mstatus.mie = false ∧
        t.reservation = none)

/-- R6 (h), R45, R700, R701: the values the spec gives for reset, for all parameters; RESET_PC of XLEN bits. The
parameters of `State.reset` itself are the model's choice (log 2). -/
def Obligations.ResetStateAsSpecified : Prop :=
  (∀ p : Params,
    let s := State.resetOf p
    s.cfg = p ∧ s.pc = p.resetPc ∧ s.priv = .machine ∧ s.getX 0 = 0 ∧ s.mstatus.mie = false ∧
    (s.csrRead .mstatus).getLsbD 17 = false ∧ s.csrRead .fcsr < 256 ∧ s.csrRead .mcause = 0 ∧
    (p.irqMSI = false → p.irqMTI = false → p.irqMEI = false → s.csrRead .mip = 0) ∧
    s.csrRead .medeleg = 0 ∧ s.csrRead .mideleg = 0 ∧ s.csrRead .satp = 0 ∧
    s.csrRead .mvendorid = 0 ∧ s.csrRead .marchid = 0 ∧ s.csrRead .mimpid = 0 ∧
    s.csrRead .mhartid = s.norm p.hartId ∧ s.reservation = none) ∧
  State.reset = State.resetOf resetParams ∧ State.reset.csrRead .misa = 0x800000000014112D ∧
  State.reset.csrRead .mhartid = 0

/-! ## Registers and memory -/

/-- R21, R22, R24: x0 reads 0 and discards writes, another register holds what was written modulo 2^XLEN, every other
register and everything else stays; a 3-bit field names register 8 + field. Only the last clause is the source's own
sentence (R24); that x0 is hardwired to 0 is the spec's decision D31. -/
def Obligations.RegisterFileReadsAndWrites : Prop :=
  ∀ (s : State) (i j : Reg) (v : Word) (r : CReg),
    s.getX 0 = 0 ∧ s.setX 0 v = s ∧
    (i ≠ 0 → ((s.setX i v).getX i).toNat = v.toNat % 2 ^ s.width) ∧
    (j ≠ i → (s.setX i v).getX j = s.getX j) ∧
    s.setX i v = { s with x := (s.setX i v).x } ∧
    (creg r).toNat = 8 + r.toNat

/-- R24: a 3-bit register field names register 8 + field, of the x registers and of the f registers: each instruction with
such fields, where its expansion (R500) on the registers with these numbers retires, ends as it does, but for the length 2
(R503). -/
def Obligations.CompressedFieldsNameRegisters : Prop :=
  ∀ (s : State) (a b : CReg) (u7 : BitVec 7) (u8 : BitVec 8) (u10 : BitVec 10) (imm shamt : BitVec 6) (off : BitVec 9),
    let reg : CReg → BitVec 5 := fun r => BitVec.ofNat 5 (8 + r.toNat)
    let ends := fun (pc : State → Word) (compressed expansion : Instr) =>
      ∀ t, exec expansion s = .next t → t.minstret = s.minstret + 1 → exec compressed s = .next { t with pc := pc t }
    let like := ends (fun _ => s.norm (s.pc + 2))
    (reg a).toNat = 8 + a.toNat ∧ reg 0b000 = 8 ∧ reg 0b111 = 15 ∧ creg a = reg a ∧
    (s.cfg.extC = true →
      like (.cLw a b u7) (.lw (reg a) (reg b) (u7.setWidth 12)) ∧ like (.cSw a b u7) (.sw (reg a) (reg b) (u7.setWidth 12)) ∧
      like (.cLd a b u8) (.ld (reg a) (reg b) (u8.setWidth 12)) ∧ like (.cSd a b u8) (.sd (reg a) (reg b) (u8.setWidth 12)) ∧
      (s.cfg.xlen = .rv32 →
        like (.cFlw a b u7) (.flw (reg a) (reg b) (u7.setWidth 12)) ∧
        like (.cFsw a b u7) (.fsw (reg a) (reg b) (u7.setWidth 12))) ∧
      like (.cFld a b u8) (.fld (reg a) (reg b) (u8.setWidth 12)) ∧
      like (.cFsd a b u8) (.fsd (reg a) (reg b) (u8.setWidth 12)) ∧
      like (.cAddi4spn a u10) (.addi (reg a) 2 (u10.setWidth 12)) ∧
      like (.cAndi a imm) (.andi (reg a) (reg a) (imm.signExtend 12)) ∧
      like (.cSrli a shamt) (.srli (reg a) (reg a) shamt) ∧ like (.cSrai a shamt) (.srai (reg a) (reg a) shamt) ∧
      like (.cSub a b) (.sub (reg a) (reg a) (reg b)) ∧ like (.cXor a b) (.xor (reg a) (reg a) (reg b)) ∧
      like (.cOr a b) (.or (reg a) (reg a) (reg b)) ∧ like (.cAnd a b) (.and (reg a) (reg a) (reg b)) ∧
      like (.cSubw a b) (.subw (reg a) (reg a) (reg b)) ∧ like (.cAddw a b) (.addw (reg a) (reg a) (reg b)) ∧
      ends (fun t => if s.getX (reg a) = 0 then t.pc else s.norm (s.pc + 2)) (.cBeqz a off)
        (.beq (reg a) 0 (off.signExtend 13)) ∧
      ends (fun t => if s.getX (reg a) = 0 then s.norm (s.pc + 2) else t.pc) (.cBnez a off)
        (.bne (reg a) 0 (off.signExtend 13)))

/-- R79: a byte of memory reads as last written, and a write leaves every other byte; and the model's form of memory:
the canonical form is kept, and equal contents are equal lists. -/
def Obligations.MemoryHoldsWhatWasWritten : Prop :=
  ∀ (m n : List Host.Cell), Memory.wf m = true → Memory.wf n = true →
    (∀ a v, Memory.wf (Memory.write m a v) = true ∧ Memory.read (Memory.write m a v) a = v ∧
      ∀ b, b ≠ a → Memory.read (Memory.write m a v) b = Memory.read m b) ∧
    ((∀ a, Memory.read m a = Memory.read n a) → m = n)

/-- R41 (c), R72, R73: what storing n bytes does: byte k of the value at address a + k, every other byte as before,
the reservation lost exactly when a reserved byte is stored to, everything else unchanged. The byte order is the
spec's decision D3, the loss of the reservation D10. -/
def Obligations.StoredBytesAreLittleEndian : Prop :=
  ∀ (s : State) (a : Word) (n : Nat) (v : Word), Memory.wf s.mem = true → n ≤ 8 →
    (∀ k < n, ((s.writeBytes a n v).byte (a + BitVec.ofNat 64 k)).toNat = v.toNat / 2 ^ (8 * k) % 256) ∧
    (∀ b, (∀ k < n, s.norm b ≠ s.norm (a + BitVec.ofNat 64 k)) → (s.writeBytes a n v).byte b = s.byte b) ∧
    ((∃ k < n, s.reserves (a + BitVec.ofNat 64 k) = true) → (s.writeBytes a n v).reservation = none) ∧
    ((∀ k < n, s.reserves (a + BitVec.ofNat 64 k) = false) → (s.writeBytes a n v).reservation = s.reservation) ∧
    s.writeBytes a n v =
      { s with mem := (s.writeBytes a n v).mem, reservation := (s.writeBytes a n v).reservation }

/-! ## Integer computation -/

/-- R200, R201, R205, R209, R211, R215, R218, R219, R223, R227, R229. -/
def Obligations.RegisterArithmeticCompletes : Prop :=
  ∀ (s : State) (rd rs1 rs2 : Reg),
    exec (.add rd rs1 rs2) s = .next (s.wrote 4 rd (s.word (s.unsignedX rs1 + s.unsignedX rs2))) ∧
    exec (.sub rd rs1 rs2) s = .next (s.wrote 4 rd (s.word (s.unsignedX rs1 - s.unsignedX rs2))) ∧
    exec (.and rd rs1 rs2) s = .next (s.wrote 4 rd (s.getX rs1 &&& s.getX rs2)) ∧
    exec (.or rd rs1 rs2) s = .next (s.wrote 4 rd (s.getX rs1 ||| s.getX rs2)) ∧
    exec (.xor rd rs1 rs2) s = .next (s.wrote 4 rd (s.getX rs1 ^^^ s.getX rs2)) ∧
    exec (.sll rd rs1 rs2) s = .next (s.wrote 4 rd (s.word (s.unsignedX rs1 * 2 ^ (s.unsignedX rs2 % s.width)))) ∧
    exec (.srl rd rs1 rs2) s = .next (s.wrote 4 rd (s.word (s.unsignedX rs1 / 2 ^ (s.unsignedX rs2 % s.width)))) ∧
    exec (.sra rd rs1 rs2) s = .next (s.wrote 4 rd (s.word (s.signedX rs1 / 2 ^ (s.unsignedX rs2 % s.width)))) ∧
    exec (.slt rd rs1 rs2) s = .next (s.wrote 4 rd (if s.signedX rs1 < s.signedX rs2 then 1 else 0)) ∧
    exec (.sltu rd rs1 rs2) s = .next (s.wrote 4 rd (if s.unsignedX rs1 < s.unsignedX rs2 then 1 else 0))

/-- R200, R202, R206, R207, R208, R210, R216, R217, R230. -/
def Obligations.ImmediateArithmeticCompletes : Prop :=
  ∀ (s : State) (rd rs1 : Reg) (imm : BitVec 12) (up : BitVec 20),
    exec (.addi rd rs1 imm) s = .next (s.wrote 4 rd (s.word (s.unsignedX rs1 + imm.toInt))) ∧
    exec (.andi rd rs1 imm) s = .next (s.wrote 4 rd (s.getX rs1 &&& s.word imm.toInt)) ∧
    exec (.ori rd rs1 imm) s = .next (s.wrote 4 rd (s.getX rs1 ||| s.word imm.toInt)) ∧
    exec (.xori rd rs1 imm) s = .next (s.wrote 4 rd (s.getX rs1 ^^^ s.word imm.toInt)) ∧
    exec (.slti rd rs1 imm) s = .next (s.wrote 4 rd (if s.signedX rs1 < imm.toInt then 1 else 0)) ∧
    exec (.sltiu rd rs1 imm) s = .next (s.wrote 4 rd (if s.unsignedX rs1 < (s.word imm.toInt).toNat then 1 else 0)) ∧
    exec (.lui rd up) s = .next (s.wrote 4 rd (s.word (up.toInt * 2 ^ 12))) ∧
    exec (.auipc rd up) s = .next (s.wrote 4 rd (s.word (s.pc.toNat + up.toInt * 2 ^ 12)))

/-- R140, R200, R212, R220, R224: a shift amount of 32 or more needs XLEN = 64, else IllegalInstruction. -/
def Obligations.ImmediateShiftsComplete : Prop :=
  ∀ (s : State) (rd rs1 : Reg) (sh : BitVec 6),
    (sh.toNat < s.width →
      exec (.slli rd rs1 sh) s = .next (s.wrote 4 rd (s.word (s.unsignedX rs1 * 2 ^ sh.toNat))) ∧
      exec (.srli rd rs1 sh) s = .next (s.wrote 4 rd (s.word (s.unsignedX rs1 / 2 ^ sh.toNat))) ∧
      exec (.srai rd rs1 sh) s = .next (s.wrote 4 rd (s.word (s.signedX rs1 / 2 ^ sh.toNat)))) ∧
    (s.width ≤ sh.toNat →
      exec (.slli rd rs1 sh) s = s.illegal (.slli rd rs1 sh) ∧
      exec (.srli rd rs1 sh) s = s.illegal (.srli rd rs1 sh) ∧
      exec (.srai rd rs1 sh) s = s.illegal (.srai rd rs1 sh))

/-- R200 (f), R203, R204, R213, R214, R221, R222, R225, R226, R228. -/
def Obligations.WordArithmeticCompletes : Prop :=
  ∀ (s : State) (rd rs1 rs2 : Reg) (imm : BitVec 12) (sh : BitVec 5), s.cfg.xlen = .rv64 →
    exec (.addw rd rs1 rs2) s = .next (s.wrote 4 rd (s.wordW (s.unsignedW rs1 + s.unsignedW rs2))) ∧
    exec (.subw rd rs1 rs2) s = .next (s.wrote 4 rd (s.wordW (s.unsignedW rs1 - s.unsignedW rs2))) ∧
    exec (.addiw rd rs1 imm) s = .next (s.wrote 4 rd (s.wordW (s.unsignedW rs1 + imm.toInt))) ∧
    exec (.sllw rd rs1 rs2) s = .next (s.wrote 4 rd (s.wordW (s.unsignedW rs1 * 2 ^ (s.unsignedX rs2 % 32)))) ∧
    exec (.srlw rd rs1 rs2) s = .next (s.wrote 4 rd (s.wordW (s.unsignedW rs1 / 2 ^ (s.unsignedX rs2 % 32)))) ∧
    exec (.sraw rd rs1 rs2) s = .next (s.wrote 4 rd (s.wordW (s.signedW rs1 / 2 ^ (s.unsignedX rs2 % 32)))) ∧
    exec (.slliw rd rs1 sh) s = .next (s.wrote 4 rd (s.wordW (s.unsignedW rs1 * 2 ^ sh.toNat))) ∧
    exec (.srliw rd rs1 sh) s = .next (s.wrote 4 rd (s.wordW (s.unsignedW rs1 / 2 ^ sh.toNat))) ∧
    exec (.sraiw rd rs1 sh) s = .next (s.wrote 4 rd (s.wordW (s.signedW rs1 / 2 ^ sh.toNat)))

/-- R340 (a), (b), (e), R345 to R349. -/
def Obligations.ProductsComplete : Prop :=
  ∀ (s : State) (rd rs1 rs2 : Reg), s.cfg.extM = true →
    exec (.mul rd rs1 rs2) s = .next (s.wrote 4 rd (s.word (s.unsignedX rs1 * s.unsignedX rs2))) ∧
    exec (.mulh rd rs1 rs2) s = .next (s.wrote 4 rd (s.word (s.signedX rs1 * s.signedX rs2 / 2 ^ s.width))) ∧
    exec (.mulhsu rd rs1 rs2) s = .next (s.wrote 4 rd (s.word (s.signedX rs1 * s.unsignedX rs2 / 2 ^ s.width))) ∧
    exec (.mulhu rd rs1 rs2) s =
      .next (s.wrote 4 rd (s.word ((s.unsignedX rs1 * s.unsignedX rs2 / 2 ^ s.width : Nat) : Int))) ∧
    (s.cfg.xlen = .rv64 → exec (.mulw rd rs1 rs2) s = .next (s.wrote 4 rd (s.wordW (s.unsignedW rs1 * s.unsignedW rs2))))

/-- R340 (c), (d), (e), R341 to R344, R350 to R353: quotients rounded toward zero, remainders with the sign of the
dividend, and the fixed values for a zero divisor and for overflow (which the exact quotient gives modulo 2^XLEN). -/
def Obligations.QuotientsComplete : Prop :=
  ∀ (s : State) (rd rs1 rs2 : Reg), s.cfg.extM = true →
    exec (.div rd rs1 rs2) s =
      .next (s.wrote 4 rd (s.word (if s.unsignedX rs2 = 0 then -1 else (s.signedX rs1).tdiv (s.signedX rs2)))) ∧
    exec (.divu rd rs1 rs2) s =
      .next (s.wrote 4 rd (s.word (if s.unsignedX rs2 = 0 then -1 else s.unsignedX rs1 / s.unsignedX rs2))) ∧
    exec (.rem rd rs1 rs2) s =
      .next (s.wrote 4 rd
        (s.word (if s.unsignedX rs2 = 0 then s.signedX rs1 else (s.signedX rs1).tmod (s.signedX rs2)))) ∧
    exec (.remu rd rs1 rs2) s =
      .next (s.wrote 4 rd (s.word (if s.unsignedX rs2 = 0 then s.unsignedX rs1 else s.unsignedX rs1 % s.unsignedX rs2))) ∧
    (s.cfg.xlen = .rv64 →
      exec (.divw rd rs1 rs2) s =
        .next (s.wrote 4 rd (s.wordW (if s.unsignedW rs2 = 0 then -1 else (s.signedW rs1).tdiv (s.signedW rs2)))) ∧
      exec (.divuw rd rs1 rs2) s =
        .next (s.wrote 4 rd (s.wordW (if s.unsignedW rs2 = 0 then -1 else s.unsignedW rs1 / s.unsignedW rs2))) ∧
      exec (.remw rd rs1 rs2) s =
        .next (s.wrote 4 rd
          (s.wordW (if s.unsignedW rs2 = 0 then s.signedW rs1 else (s.signedW rs1).tmod (s.signedW rs2)))) ∧
      exec (.remuw rd rs1 rs2) s =
        .next (s.wrote 4 rd
          (s.wordW (if s.unsignedW rs2 = 0 then s.unsignedW rs1 else s.unsignedW rs1 % s.unsignedW rs2))))

/-- R500, R503 to R511, R529, R530, R533, R534, R537 to R541, R544: each compressed computation gives what its expansion
gives, and pc + 2. -/
def Obligations.CompressedArithmeticCompletes : Prop :=
  ∀ (s : State) (rd rs2 : Reg) (d r : CReg) (imm sh : BitVec 6) (wide : BitVec 10), s.cfg.extC = true →
    exec (.cAdd rd rs2) s = .next (s.wrote 2 rd (s.word (s.unsignedX rd + s.unsignedX rs2))) ∧
    exec (.cMv rd rs2) s = .next (s.wrote 2 rd (s.getX rs2)) ∧
    exec (.cAddi rd imm) s = .next (s.wrote 2 rd (s.word (s.unsignedX rd + imm.toInt))) ∧
    exec (.cLi rd imm) s = .next (s.wrote 2 rd (s.word imm.toInt)) ∧
    exec (.cLui rd imm) s = .next (s.wrote 2 rd (s.word (imm.toInt * 2 ^ 12))) ∧
    exec (.cAddi16sp wide) s = .next (s.wrote 2 2 (s.word (s.unsignedX 2 + wide.toInt))) ∧
    exec (.cAddi4spn d wide) s = .next (s.wrote 2 (creg d) (s.word (s.unsignedX 2 + wide.toNat))) ∧
    exec (.cSub d r) s = .next (s.wrote 2 (creg d) (s.word (s.unsignedX (creg d) - s.unsignedX (creg r)))) ∧
    exec (.cAnd d r) s = .next (s.wrote 2 (creg d) (s.getX (creg d) &&& s.getX (creg r))) ∧
    exec (.cOr d r) s = .next (s.wrote 2 (creg d) (s.getX (creg d) ||| s.getX (creg r))) ∧
    exec (.cXor d r) s = .next (s.wrote 2 (creg d) (s.getX (creg d) ^^^ s.getX (creg r))) ∧
    exec (.cAndi d imm) s = .next (s.wrote 2 (creg d) (s.getX (creg d) &&& s.word imm.toInt)) ∧
    (sh.toNat < s.width →
      exec (.cSlli rd sh) s = .next (s.wrote 2 rd (s.word (s.unsignedX rd * 2 ^ sh.toNat))) ∧
      exec (.cSrli d sh) s = .next (s.wrote 2 (creg d) (s.word (s.unsignedX (creg d) / 2 ^ sh.toNat))) ∧
      exec (.cSrai d sh) s = .next (s.wrote 2 (creg d) (s.word (s.signedX (creg d) / 2 ^ sh.toNat)))) ∧
    (s.cfg.xlen = .rv64 →
      exec (.cAddiw rd imm) s = .next (s.wrote 2 rd (s.wordW (s.unsignedW rd + imm.toInt))) ∧
      exec (.cAddw d r) s = .next (s.wrote 2 (creg d) (s.wordW (s.unsignedW (creg d) + s.unsignedW (creg r)))) ∧
      exec (.cSubw d r) s = .next (s.wrote 2 (creg d) (s.wordW (s.unsignedW (creg d) - s.unsignedW (creg r)))))

/-! ## Control transfer -/

/-- R260 (b), R261 to R266, R503, R512, R513: a branch goes to its target when its condition holds, else to the next
instruction. -/
def Obligations.BranchesComplete : Prop :=
  ∀ (s : State) (rs1 rs2 : Reg) (off : BitVec 13) (r : CReg) (coff : BitVec 9),
    let target := s.word (s.pc.toNat + off.toInt)
    let ctarget := s.word (s.pc.toNat + coff.toInt)
    (s.badTarget target = false →
      (s.unsignedX rs1 = s.unsignedX rs2 → exec (.beq rs1 rs2 off) s = .next (s.jumped target)) ∧
      (s.unsignedX rs1 ≠ s.unsignedX rs2 → exec (.bne rs1 rs2 off) s = .next (s.jumped target)) ∧
      (s.signedX rs1 < s.signedX rs2 → exec (.blt rs1 rs2 off) s = .next (s.jumped target)) ∧
      (s.signedX rs2 ≤ s.signedX rs1 → exec (.bge rs1 rs2 off) s = .next (s.jumped target)) ∧
      (s.unsignedX rs1 < s.unsignedX rs2 → exec (.bltu rs1 rs2 off) s = .next (s.jumped target)) ∧
      (s.unsignedX rs2 ≤ s.unsignedX rs1 → exec (.bgeu rs1 rs2 off) s = .next (s.jumped target))) ∧
    (s.unsignedX rs1 ≠ s.unsignedX rs2 → exec (.beq rs1 rs2 off) s = .next (s.passed 4)) ∧
    (s.unsignedX rs1 = s.unsignedX rs2 → exec (.bne rs1 rs2 off) s = .next (s.passed 4)) ∧
    (s.signedX rs2 ≤ s.signedX rs1 → exec (.blt rs1 rs2 off) s = .next (s.passed 4)) ∧
    (s.signedX rs1 < s.signedX rs2 → exec (.bge rs1 rs2 off) s = .next (s.passed 4)) ∧
    (s.unsignedX rs2 ≤ s.unsignedX rs1 → exec (.bltu rs1 rs2 off) s = .next (s.passed 4)) ∧
    (s.unsignedX rs1 < s.unsignedX rs2 → exec (.bgeu rs1 rs2 off) s = .next (s.passed 4)) ∧
    (s.cfg.extC = true →
      (s.badTarget ctarget = false → s.unsignedX (creg r) = 0 → exec (.cBeqz r coff) s = .next (s.jumped ctarget)) ∧
      (s.badTarget ctarget = false → s.unsignedX (creg r) ≠ 0 → exec (.cBnez r coff) s = .next (s.jumped ctarget)) ∧
      (s.unsignedX (creg r) ≠ 0 → exec (.cBeqz r coff) s = .next (s.passed 2)) ∧
      (s.unsignedX (creg r) = 0 → exec (.cBnez r coff) s = .next (s.passed 2)))

/-- R260 (d), R267, R268, R503, R523 to R526: a jump goes to its target, bit 0 cleared for a register target, and links
the address of the next instruction. -/
def Obligations.JumpsComplete : Prop :=
  ∀ (s : State) (rd rs1 : Reg) (off : BitVec 21) (ioff coff : BitVec 12),
    let target := s.word (s.pc.toNat + off.toInt)
    let ctarget := s.word (s.pc.toNat + coff.toInt)
    let itarget := s.address rs1 ioff.toInt &&& ~~~ 1#64
    let rtarget := s.getX rs1 &&& ~~~ 1#64
    (s.badTarget target = false → exec (.jal rd off) s = .next (s.linked 4 rd target)) ∧
    (s.badTarget itarget = false → exec (.jalr rd rs1 ioff) s = .next (s.linked 4 rd itarget)) ∧
    (s.cfg.extC = true →
      (s.badTarget ctarget = false → exec (.cJ coff) s = .next (s.jumped ctarget)) ∧
      (s.badTarget ctarget = false → s.cfg.xlen = .rv32 → exec (.cJal coff) s = .next (s.linked 2 1 ctarget)) ∧
      exec (.cJr rs1) s = .next (s.jumped rtarget) ∧
      exec (.cJalr rs1) s = .next (s.linked 2 1 rtarget))

/-- R260 (e), R644, R75, R76: a taken transfer to a misaligned target, a misaligned access under MISALIGNED_DATA =
trap and every misaligned atomic access raise their exception, with the target or the address as value. These
exceptions are the spec's decisions D4, D5 and D6. -/
def Obligations.MisalignedAddressesTrap : Prop :=
  ∀ (s : State),
    (∀ (rs1 rs2 : Reg) (off : BitVec 13), s.badTarget (s.word (s.pc.toNat + off.toInt)) = true →
      let trap := s.raise .instructionAddressMisaligned (s.word (s.pc.toNat + off.toInt))
      (s.unsignedX rs1 = s.unsignedX rs2 → exec (.beq rs1 rs2 off) s = trap) ∧
      (s.unsignedX rs1 ≠ s.unsignedX rs2 → exec (.bne rs1 rs2 off) s = trap) ∧
      (s.signedX rs1 < s.signedX rs2 → exec (.blt rs1 rs2 off) s = trap) ∧
      (s.signedX rs2 ≤ s.signedX rs1 → exec (.bge rs1 rs2 off) s = trap) ∧
      (s.unsignedX rs1 < s.unsignedX rs2 → exec (.bltu rs1 rs2 off) s = trap) ∧
      (s.unsignedX rs2 ≤ s.unsignedX rs1 → exec (.bgeu rs1 rs2 off) s = trap)) ∧
    (∀ (rd : Reg) (off : BitVec 21), s.badTarget (s.word (s.pc.toNat + off.toInt)) = true →
      exec (.jal rd off) s = s.raise .instructionAddressMisaligned (s.word (s.pc.toNat + off.toInt))) ∧
    (∀ (rd rs1 : Reg) (off : BitVec 12), s.badTarget (s.address rs1 off.toInt &&& ~~~ 1#64) = true →
      exec (.jalr rd rs1 off) s = s.raise .instructionAddressMisaligned (s.address rs1 off.toInt &&& ~~~ 1#64)) ∧
    (∀ (i : Instr) (a : Word) (n : Nat), s.permits i = true → ¬ s.multipleOf a n →
      (s.loads i = some (a, n) → s.cfg.misaligned = .trap → exec i s = s.raise .loadAddressMisaligned a) ∧
      (s.stores i = some (a, n) → s.cfg.misaligned = .trap → exec i s = s.raise .storeAddressMisaligned a) ∧
      (s.atomics i = some (a, n) → exec i s = s.raise .storeAddressMisaligned a)) ∧
    (∀ (aq rl : Bool) (rd rs1 : Reg), s.cfg.extA = true →
      (¬ s.multipleOf (s.getX rs1) 4 → exec (.lrW aq rl rd rs1) s = s.raise .loadAddressMisaligned (s.getX rs1)) ∧
      (s.cfg.xlen = .rv64 → ¬ s.multipleOf (s.getX rs1) 8 →
        exec (.lrD aq rl rd rs1) s = s.raise .loadAddressMisaligned (s.getX rs1)))

/-! ## Loads, stores and fences -/

/-- R72, R73, R95, R280, R283 to R289, R500, R527, R528, R531, R532: the little-endian bytes at the effective address,
sign- or zero-extended, to x[rd]. -/
def Obligations.IntegerLoadsComplete : Prop :=
  ∀ (s : State) (rd rs1 : Reg) (off : BitVec 12) (d r : CReg) (u7 : BitVec 7) (u8 : BitVec 8) (u9 : BitVec 9),
    let a := s.address rs1 off.toInt
    (s.completes .load a 1 →
      exec (.lb rd rs1 off) s = .next (s.wrote 4 rd (s.word (twos 8 (s.leNat a 1)))) ∧
      exec (.lbu rd rs1 off) s = .next (s.wrote 4 rd (s.word (s.leNat a 1)))) ∧
    (s.completes .load a 2 →
      exec (.lh rd rs1 off) s = .next (s.wrote 4 rd (s.word (twos 16 (s.leNat a 2)))) ∧
      exec (.lhu rd rs1 off) s = .next (s.wrote 4 rd (s.word (s.leNat a 2)))) ∧
    (s.completes .load a 4 →
      exec (.lw rd rs1 off) s = .next (s.wrote 4 rd (s.word (twos 32 (s.leNat a 4)))) ∧
      (s.cfg.xlen = .rv64 → exec (.lwu rd rs1 off) s = .next (s.wrote 4 rd (s.word (s.leNat a 4))))) ∧
    (s.completes .load a 8 → s.cfg.xlen = .rv64 →
      exec (.ld rd rs1 off) s = .next (s.wrote 4 rd (s.word (s.leNat a 8)))) ∧
    (s.cfg.extC = true →
      (s.completes .load (s.address (creg r) u7.toNat) 4 →
        exec (.cLw d r u7) s =
          .next (s.wrote 2 (creg d) (s.word (twos 32 (s.leNat (s.address (creg r) u7.toNat) 4))))) ∧
      (s.completes .load (s.address 2 u8.toNat) 4 →
        exec (.cLwsp rd u8) s = .next (s.wrote 2 rd (s.word (twos 32 (s.leNat (s.address 2 u8.toNat) 4))))) ∧
      (s.cfg.xlen = .rv64 → s.completes .load (s.address (creg r) u8.toNat) 8 →
        exec (.cLd d r u8) s = .next (s.wrote 2 (creg d) (s.word (s.leNat (s.address (creg r) u8.toNat) 8)))) ∧
      (s.cfg.xlen = .rv64 → s.completes .load (s.address 2 u9.toNat) 8 →
        exec (.cLdsp rd u9) s = .next (s.wrote 2 rd (s.word (s.leNat (s.address 2 u9.toNat) 8)))))

/-- R73, R95, R280 (c), R290 to R293, R500, R535, R536, R542, R543: the low bytes of x[rs2] at the effective address. -/
def Obligations.IntegerStoresComplete : Prop :=
  ∀ (s : State) (rs2 rs1 : Reg) (off : BitVec 12) (v r : CReg) (u7 : BitVec 7) (u8 : BitVec 8) (u9 : BitVec 9),
    let a := s.address rs1 off.toInt
    (s.completes .store a 1 → exec (.sb rs2 rs1 off) s = .next (s.stored 4 a 1 (s.getX rs2))) ∧
    (s.completes .store a 2 → exec (.sh rs2 rs1 off) s = .next (s.stored 4 a 2 (s.getX rs2))) ∧
    (s.completes .store a 4 → exec (.sw rs2 rs1 off) s = .next (s.stored 4 a 4 (s.getX rs2))) ∧
    (s.completes .store a 8 → s.cfg.xlen = .rv64 → exec (.sd rs2 rs1 off) s = .next (s.stored 4 a 8 (s.getX rs2))) ∧
    (s.cfg.extC = true →
      (s.completes .store (s.address (creg r) u7.toNat) 4 →
        exec (.cSw v r u7) s = .next (s.stored 2 (s.address (creg r) u7.toNat) 4 (s.getX (creg v)))) ∧
      (s.completes .store (s.address 2 u8.toNat) 4 →
        exec (.cSwsp rs2 u8) s = .next (s.stored 2 (s.address 2 u8.toNat) 4 (s.getX rs2))) ∧
      (s.cfg.xlen = .rv64 → s.completes .store (s.address (creg r) u8.toNat) 8 →
        exec (.cSd v r u8) s = .next (s.stored 2 (s.address (creg r) u8.toNat) 8 (s.getX (creg v)))) ∧
      (s.cfg.xlen = .rv64 → s.completes .store (s.address 2 u9.toNat) 8 →
        exec (.cSdsp rs2 u9) s = .next (s.stored 2 (s.address 2 u9.toNat) 8 (s.getX rs2))))

/-- R29, R404, R419, R434, R465, R477, R500, R515 to R522: the bits move unchanged, a single boxed on the way in. -/
def Obligations.FloatLoadsAndStoresComplete : Prop :=
  ∀ (s : State) (rd rs2 : FReg) (rs1 : Reg) (off : BitVec 12) (d r : CReg) (u7 : BitVec 7) (u8 : BitVec 8)
    (u9 : BitVec 9),
    let a := s.address rs1 off.toInt
    let single := fun (len : Word) (f : FReg) (b : Word) => (s.setS f (BitVec.ofNat 32 (s.leNat b 4))).passed len
    let double := fun (len : Word) (f : FReg) (b : Word) => (s.setF f (BitVec.ofNat 64 (s.leNat b 8))).passed len
    (s.singleOn →
      (s.completes .load a 4 → exec (.flw rd rs1 off) s = .next (single 4 rd a)) ∧
      (s.completes .store a 4 → exec (.fsw rs2 rs1 off) s = .next (s.stored 4 a 4 (s.getF rs2))) ∧
      (s.cfg.extC = true → s.cfg.xlen = .rv32 →
        (s.completes .load (s.address (creg r) u7.toNat) 4 →
          exec (.cFlw d r u7) s = .next (single 2 (creg d) (s.address (creg r) u7.toNat))) ∧
        (s.completes .load (s.address 2 u8.toNat) 4 →
          exec (.cFlwsp rd u8) s = .next (single 2 rd (s.address 2 u8.toNat))) ∧
        (s.completes .store (s.address (creg r) u7.toNat) 4 →
          exec (.cFsw d r u7) s = .next (s.stored 2 (s.address (creg r) u7.toNat) 4 (s.getF (creg d)))) ∧
        (s.completes .store (s.address 2 u8.toNat) 4 →
          exec (.cFswsp rs2 u8) s = .next (s.stored 2 (s.address 2 u8.toNat) 4 (s.getF rs2))))) ∧
    (s.doubleOn →
      (s.completes .load a 8 → exec (.fld rd rs1 off) s = .next (double 4 rd a)) ∧
      (s.completes .store a 8 → exec (.fsd rs2 rs1 off) s = .next (s.stored 4 a 8 (s.getF rs2))) ∧
      (s.cfg.extC = true →
        (s.completes .load (s.address (creg r) u8.toNat) 8 →
          exec (.cFld d r u8) s = .next (double 2 (creg d) (s.address (creg r) u8.toNat))) ∧
        (s.completes .load (s.address 2 u9.toNat) 8 →
          exec (.cFldsp rd u9) s = .next (double 2 rd (s.address 2 u9.toNat))) ∧
        (s.completes .store (s.address (creg r) u8.toNat) 8 →
          exec (.cFsd d r u8) s = .next (s.stored 2 (s.address (creg r) u8.toNat) 8 (s.getF (creg d)))) ∧
        (s.completes .store (s.address 2 u9.toNat) 8 →
          exec (.cFsdsp rs2 u9) s = .next (s.stored 2 (s.address 2 u9.toNat) 8 (s.getF rs2)))))

/-- R645, R81, R75, R379, R380: an aligned access with a forbidden byte, an lr among them, or a split one whose first byte
that is not granted is forbidden, raises its access fault with the address as value; the bytes of its data that a split
store wrote before it stay written. Access faults are the spec's decision D7, split accesses D4. -/
def Obligations.ForbiddenAccessesTrap : Prop :=
  ∀ (s : State) (i : Instr) (a : Word) (n : Nat), s.permits i = true →
    ((s.multipleOf a n ∧ ∃ k < n, s.forbidden .load (a + BitVec.ofNat 64 k) = true) → s.loads i = some (a, n) →
      exec i s = s.raise .loadAccessFault a) ∧
    ((s.multipleOf a n ∧ ∃ k < n, s.forbidden .load (a + BitVec.ofNat 64 k) = true) →
      (∀ aq rl rd rs1, a = s.getX rs1 → (i = .lrW aq rl rd rs1 ∧ n = 4) ∨ (i = .lrD aq rl rd rs1 ∧ n = 8) →
        exec i s = s.raise .loadAccessFault a)) ∧
    ((s.multipleOf a n ∧ ∃ k < n, s.forbidden .store (a + BitVec.ofNat 64 k) = true) → s.stores i = some (a, n) →
      exec i s = s.raise .storeAccessFault a) ∧
    ((s.multipleOf a n ∧ ∃ k < n, s.forbidden .atomic (a + BitVec.ofNat 64 k) = true) → s.atomics i = some (a, n) →
      exec i s = s.raise .storeAccessFault a) ∧
    (∀ k < n, ¬ s.multipleOf a n → s.cfg.misaligned = .split → s.grantedAll .load a k →
      s.forbidden .load (a + BitVec.ofNat 64 k) = true → s.loads i = some (a, n) →
      exec i s = s.raise .loadAccessFault a) ∧
    (∀ k < n, ¬ s.multipleOf a n → s.cfg.misaligned = .split → s.grantedAll .store a k →
      s.forbidden .store (a + BitVec.ofNat 64 k) = true → s.stores i = some (a, n) →
      exec i s = (s.writeBytes a k (s.storeData i)).raise .storeAccessFault a)

/-- R83, R87 to R89, R281, R282, R310 (f), R320, R322, R643 (g), R668, R669: with one hart a fence, a legal sfence.vma and a
legal wfi only advance pc (log 30, log 36); fence.i also makes the fetches see memory as it is (R93). Where they are not
legal, the spec's decision D19, they raise IllegalInstruction. Under TrapModel = terminal a legal wfi is a nop and an illegal
one ends the run: the model's reading of R669 (log 37). -/
def Obligations.FencesAndWaitsComplete : Prop :=
  ∀ (s : State) (p q : BitVec 4) (rs1 rs2 : Reg),
    exec (.fence p q) s = .next (s.passed 4) ∧
    exec .fenceI s = .next ({ s with imem := s.mem }.passed 4) ∧
    (s.cfg.hasS = true → s.priv = .machine ∨ (s.priv = .supervisor ∧ s.mstatus.tvm = false) →
      exec (.sfenceVma rs1 rs2) s = .next (s.passed 4)) ∧
    (s.cfg.hasS = false ∨ s.priv = .user ∨ (s.priv = .supervisor ∧ s.mstatus.tvm = true) →
      exec (.sfenceVma rs1 rs2) s = s.illegal (.sfenceVma rs1 rs2)) ∧
    (s.priv = .machine ∨ (s.mstatus.tw = false ∧ (s.priv = .supervisor ∨ s.cfg.hasS = false)) →
      exec .wfi s = .next (s.passed 4)) ∧
    (s.priv ≠ .machine ∧ (s.mstatus.tw = true ∨ (s.priv = .user ∧ s.cfg.hasS = true)) →
      exec .wfi s = s.illegal .wfi)

/-! ## Control and status registers -/

/-- R32, R310 to R316: each CSR instruction on a register it may access: the old value to x[rd], the new one to the CSR
when the instruction writes; on any other number, IllegalInstruction. The instruction counts as retired but when it writes
minstret (R37, D24) or, the model's reading, minstreth (log 17). -/
def Obligations.CsrInstructionsComplete : Prop :=
  ∀ (s : State) (rd rs1 : Reg) (n : BitVec 12) (z : BitVec 5),
    (∀ c, s.csrAccess n true = some c →
      exec (.csrrw rd n rs1) s = .next (s.csrDone c rd (some (s.getX rs1))) ∧
      exec (.csrrwi rd n z) s = .next (s.csrDone c rd (some (BitVec.ofNat 64 z.toNat))) ∧
      (rs1 ≠ 0 → exec (.csrrs rd n rs1) s = .next (s.csrDone c rd (some (s.csrRead c ||| s.getX rs1)))) ∧
      (rs1 ≠ 0 → exec (.csrrc rd n rs1) s = .next (s.csrDone c rd (some (s.csrRead c &&& ~~~ s.getX rs1)))) ∧
      (z ≠ 0 →
        exec (.csrrsi rd n z) s = .next (s.csrDone c rd (some (s.csrRead c ||| BitVec.ofNat 64 z.toNat))) ∧
        exec (.csrrci rd n z) s = .next (s.csrDone c rd (some (s.csrRead c &&& ~~~ BitVec.ofNat 64 z.toNat))))) ∧
    (∀ c, s.csrAccess n false = some c →
      exec (.csrrs rd n 0) s = .next (s.csrDone c rd none) ∧ exec (.csrrc rd n 0) s = .next (s.csrDone c rd none) ∧
      exec (.csrrsi rd n 0) s = .next (s.csrDone c rd none) ∧ exec (.csrrci rd n 0) s = .next (s.csrDone c rd none)) ∧
    (s.csrAccess n true = none →
      exec (.csrrw rd n rs1) s = s.illegal (.csrrw rd n rs1) ∧
      exec (.csrrwi rd n z) s = s.illegal (.csrrwi rd n z) ∧
      (rs1 ≠ 0 → exec (.csrrs rd n rs1) s = s.illegal (.csrrs rd n rs1) ∧
        exec (.csrrc rd n rs1) s = s.illegal (.csrrc rd n rs1)) ∧
      (z ≠ 0 → exec (.csrrsi rd n z) s = s.illegal (.csrrsi rd n z) ∧
        exec (.csrrci rd n z) s = s.illegal (.csrrci rd n z))) ∧
    (s.csrAccess n false = none →
      exec (.csrrs rd n 0) s = s.illegal (.csrrs rd n 0) ∧ exec (.csrrc rd n 0) s = s.illegal (.csrrc rd n 0) ∧
      exec (.csrrsi rd n 0) s = s.illegal (.csrrsi rd n 0) ∧ exec (.csrrci rd n 0) s = s.illegal (.csrrci rd n 0))

/-- R32, R33: which accesses to a CSR are allowed: the register exists, the mode suffices, a write is not to a read-
only register, FS is on for the floating-point CSRs, the enables are on for the counters, TVM is off for satp. The
rule is the spec's decision D19. -/
def Obligations.CsrAccessRule : Prop :=
  ∀ (s : State) (n : BitVec 12) (writes : Bool) (c : Csr),
    s.csrAccess n writes = some c ↔
      n = c.number ∧ Params.hasCsr s.cfg c = true ∧
      n.toNat / 256 % 4 ≤ Priv.level s.priv ∧ ¬ (writes = true ∧ n.toNat / 1024 = 3) ∧
      (c ∈ [Csr.fflags, Csr.frm, Csr.fcsr] → s.mstatus.fs ≠ 0) ∧
      (c = .satp → ¬ (s.priv = .supervisor ∧ s.mstatus.tvm = true)) ∧
      (∀ k, (c, k) ∈ [(Csr.cycle, 0), (Csr.cycleh, 0), (Csr.time, 1), (Csr.timeh, 1), (Csr.instret, 2),
          (Csr.instreth, 2)] →
        (s.priv ≠ .machine → s.mcounteren.getLsbD k = true) ∧
        (s.priv = .user → s.cfg.hasS = true → s.scounteren.getLsbD k = true))

/-- R35, R36, R38, R39, R42, R648: what the trap and interrupt registers read after a write, for every value written;
bits 3, 7 and 11 of mip read the lines that IRQ names; mip and sip read 0 with IRQ empty; what misa and mhartid read. The
layouts are the ones R35 to R39 give from general knowledge (log 24). The model's readings: that SSIP, STIP and SEIP read
back what software wrote only when IRQ is not empty (R38 and R648 under R42 and D18, log 38), and that SEIP is the software
bit alone (log 23). -/
def Obligations.TrapRegistersReadBack : Prop :=
  ∀ (s : State) (v : Word),
    (∀ c ∈ [Csr.mscratch, .mcause, .mtval, .sscratch, .scause, .stval], (s.csrWrite c v).csrRead c = s.norm v) ∧
    (∀ c ∈ [Csr.mepc, .sepc], (s.csrWrite c v).csrRead c =
      s.norm (if s.cfg.extC then v &&& ~~~ 1#64 else v &&& ~~~ 3#64)) ∧
    (v.getLsbD 1 = false → (s.csrWrite .mtvec v).csrRead .mtvec = s.norm v ∧
      (s.csrWrite .stvec v).csrRead .stvec = s.norm v) ∧
    (v.getLsbD 1 = true → (s.csrWrite .mtvec v).csrRead .mtvec = s.norm ((v &&& ~~~ 3#64) ||| (s.mtvec &&& 3#64)) ∧
      (s.csrWrite .stvec v).csrRead .stvec = s.norm ((v &&& ~~~ 3#64) ||| (s.stvec &&& 3#64))) ∧
    (s.csrWrite .mie v).csrRead .mie = v &&& (if s.cfg.hasS then 0xAAA#64 else 0x888#64) ∧
    (s.csrWrite .sie v).csrRead .mie =
      (if s.cfg.hasS then (s.csrRead .mie &&& ~~~ 0x222#64) ||| (v &&& 0x222#64) else s.csrRead .mie) ∧
    ((s.csrRead .mip).getLsbD 3 = (s.cfg.irqMSI && s.lines.msi) ∧
      (s.csrRead .mip).getLsbD 7 = (s.cfg.irqMTI && s.lines.mti) ∧
      (s.csrRead .mip).getLsbD 11 = (s.cfg.irqMEI && s.lines.mei)) ∧
    (s.csrRead .sie = s.csrRead .mie &&& 0x222#64) ∧ (s.csrRead .sip = s.csrRead .mip &&& 0x222#64) ∧
    (let soft := s.cfg.hasS && (s.cfg.irqMSI || s.cfg.irqMTI || s.cfg.irqMEI)
     (s.csrWrite .mip v).csrRead .mip =
       (s.csrRead .mip &&& 0x888#64) ||| (v &&& (if soft then 0x222#64 else 0#64)) ∧
     (s.csrWrite .sip v).csrRead .mip =
       (if soft then (s.csrRead .mip &&& ~~~ 2#64) ||| (v &&& 2#64) else s.csrRead .mip)) ∧
    (s.cfg.irqMSI = false → s.cfg.irqMTI = false → s.cfg.irqMEI = false →
      s.csrRead .mip = 0 ∧ s.csrRead .sip = 0 ∧ ∀ c, (s.csrWrite c v).csrRead .mip = 0) ∧
    (∀ c ∈ [Csr.misa, .medeleg, .mideleg, .satp, .mvendorid, .marchid, .mimpid, .mhartid], s.csrWrite c v = s) ∧
    (∀ c ∈ [Csr.medeleg, .mideleg, .satp, .mvendorid, .marchid, .mimpid], s.csrRead c = 0) ∧
    (s.csrRead .mhartid).toNat = s.cfg.hartId.toNat % 2 ^ s.width ∧
    (let letter := fun (on : Bool) (k : Nat) => if on then 2 ^ k else 0
     (s.csrRead .misa).toNat = (match s.cfg.xlen with | .rv32 => 2 ^ 30 | .rv64 => 2 ^ 63) +
       letter s.cfg.extA 0 + letter s.cfg.extC 2 + letter s.cfg.extD 3 + letter s.cfg.extF 5 + letter true 8 +
       letter s.cfg.extM 12 + letter s.cfg.hasS 18 + letter s.cfg.hasU 20)

/-- R34, R36: mstatus field by field after a write, its hard-wired bits, and sstatus as a view of it. The layout is
the one R34 gives from general knowledge (log 25). -/
def Obligations.StatusFieldsReadBack : Prop :=
  ∀ (s : State) (v : Word),
    let w := (s.csrWrite .mstatus v).csrRead .mstatus
    w.getLsbD 3 = v.getLsbD 3 ∧ w.getLsbD 7 = v.getLsbD 7 ∧
    (∀ k ∈ [1, 5, 8, 20, 22], w.getLsbD k = (s.cfg.hasS && v.getLsbD k)) ∧
    w.getLsbD 21 = (s.cfg.hasU && v.getLsbD 21) ∧
    (∀ k ∈ [13, 14], w.getLsbD k = (s.cfg.extF && v.getLsbD k)) ∧
    (∀ k ∈ [0, 2, 4, 6, 9, 10, 15, 16, 17, 18, 19, 23, 24, 25, 26, 27, 28, 29, 30], w.getLsbD k = false) ∧
    (w.getLsbD (s.width - 1) = (s.cfg.extF && v.getLsbD 13 && v.getLsbD 14)) ∧
    (s.cfg.xlen = .rv64 → w.getLsbD 31 = false ∧ w.getLsbD 32 = false ∧ w.getLsbD 33 = s.cfg.hasU ∧
      w.getLsbD 34 = false ∧ w.getLsbD 35 = s.cfg.hasS ∧ ∀ k, 36 ≤ k → k < 63 → w.getLsbD k = false) ∧
    (∀ p : Priv, Priv.level p = v.toNat / 2 ^ 11 % 4 → Params.hasMode s.cfg p = true →
      (s.csrWrite .mstatus v).mstatus.mpp = p) ∧
    ((∀ p : Priv, Priv.level p = v.toNat / 2 ^ 11 % 4 → Params.hasMode s.cfg p = false) →
      (s.csrWrite .mstatus v).mstatus.mpp = s.mstatus.mpp) ∧
    w.toNat / 2 ^ 11 % 4 = Priv.level (s.csrWrite .mstatus v).mstatus.mpp ∧
    (let mask : Word := match s.cfg.xlen with | .rv32 => 0x80006122#64 | .rv64 => 0x8000000300006122#64
     s.csrRead .sstatus = s.csrRead .mstatus &&& mask) ∧
    (s.csrWrite .sstatus v).csrRead .sstatus = (s.csrWrite .mstatus v).csrRead .sstatus ∧
    (s.csrWrite .sstatus v).mstatus =
      { s.mstatus with
        sie := (s.csrWrite .sstatus v).mstatus.sie, spie := (s.csrWrite .sstatus v).mstatus.spie,
        spp := (s.csrWrite .sstatus v).mstatus.spp, fs := (s.csrWrite .sstatus v).mstatus.fs }

/-- R30, R404 (c): fflags, frm and fcsr are views of one register; a write makes FS Dirty. The layout is the spec's
decision D22, FS its decision D30. -/
def Obligations.FloatControlViews : Prop :=
  ∀ (s : State) (v : Word),
    (s.csrRead .fcsr).toNat = (s.csrRead .frm).toNat * 32 + (s.csrRead .fflags).toNat ∧
    ((s.csrWrite .fcsr v).csrRead .fcsr).toNat = v.toNat % 256 ∧
    ((s.csrWrite .fflags v).csrRead .fflags).toNat = v.toNat % 32 ∧
    (s.csrWrite .fflags v).csrRead .frm = s.csrRead .frm ∧
    ((s.csrWrite .frm v).csrRead .frm).toNat = v.toNat % 8 ∧
    (s.csrWrite .frm v).csrRead .fflags = s.csrRead .fflags ∧
    (∀ c ∈ [Csr.fflags, .frm, .fcsr], (s.csrWrite c v).mstatus = { s.mstatus with fs := 3 })

/-- R37, R38, R39: the counters: full width on XLEN = 64, two halves on XLEN = 32; the views; the counter enables; a
write of minstret leaves the written value (for minstreth log 17: the model's choice). The counters are the spec's
decision D24. -/
def Obligations.CountersReadBack : Prop :=
  ∀ (s : State) (v : Word) (rd : Reg),
    s.csrRead .cycle = s.csrRead .mcycle ∧ s.csrRead .instret = s.csrRead .minstret ∧
    s.csrRead .cycleh = s.csrRead .mcycleh ∧ s.csrRead .instreth = s.csrRead .minstreth ∧
    (s.csrRead .mcycle).toNat = s.mcycle.toNat % 2 ^ s.width ∧ (s.csrRead .time).toNat = s.mtime.toNat % 2 ^ s.width ∧
    (s.csrRead .mcycleh).toNat = s.mcycle.toNat / 2 ^ 32 ∧ (s.csrRead .timeh).toNat = s.mtime.toNat / 2 ^ 32 ∧
    (s.csrRead .minstret).toNat = s.minstret.toNat % 2 ^ s.width ∧
    (s.csrRead .minstreth).toNat = s.minstret.toNat / 2 ^ 32 ∧
    (s.cfg.xlen = .rv64 → (s.csrWrite .mcycle v).mcycle = v ∧ (s.csrWrite .minstret v).minstret = v) ∧
    (s.cfg.xlen = .rv32 →
      (s.csrWrite .mcycle v).mcycle.toNat = s.mcycle.toNat / 2 ^ 32 * 2 ^ 32 + v.toNat % 2 ^ 32 ∧
      (s.csrWrite .minstret v).minstret.toNat = s.minstret.toNat / 2 ^ 32 * 2 ^ 32 + v.toNat % 2 ^ 32) ∧
    (s.csrWrite .mcycleh v).mcycle.toNat = v.toNat % 2 ^ 32 * 2 ^ 32 + s.mcycle.toNat % 2 ^ 32 ∧
    (s.csrWrite .minstreth v).minstret.toNat = v.toNat % 2 ^ 32 * 2 ^ 32 + s.minstret.toNat % 2 ^ 32 ∧
    (∀ c ∈ [Csr.mcounteren, .scounteren], ((s.csrWrite c v).csrRead c).toNat = v.toNat % 8) ∧
    (s.csrDone .minstret rd (some v)).minstret = (s.csrWrite .minstret v).minstret ∧
    (s.csrDone .mcycle rd (some v)).minstret = s.minstret + 1

/-- R200 (c), R310 (g): a CSR instruction that completes changes x[rd], pc, minstret and the state its CSR stands for, and
nothing else; a read changes no CSR. That a write of mcycle or mcycleh leaves mtime is log 15, the model's choice; that a
write of minstreth leaves the value written is log 17. -/
def Obligations.CsrInstructionFrame : Prop :=
  ∀ (s : State) (c : Csr) (rd : Reg) (w : Option Word),
    let t := s.csrDone c rd w
    (∀ r, r ≠ rd → t.getX r = s.getX r) ∧ t.getX rd = (if rd = 0 then 0 else s.norm (s.csrRead c)) ∧
    t.cfg = s.cfg ∧ t.f = s.f ∧ t.priv = s.priv ∧ t.reservation = s.reservation ∧ t.mem = s.mem ∧ t.imem = s.imem ∧
    (∀ b, t.byte b = s.byte b) ∧ t.pc = s.norm (s.pc + 4) ∧ t.lines = s.lines ∧ t.mtime = s.mtime ∧
    t.drawIndex = s.drawIndex ∧
    (w = none → t = ((s.setX rd (s.csrRead c)).advance 4).retire) ∧
    (c ∉ [Csr.fflags, .fcsr] → t.fflags = s.fflags) ∧ (c ∉ [Csr.frm, .fcsr] → t.frm = s.frm) ∧
    (c ∉ [Csr.fflags, .frm, .fcsr, .mstatus, .sstatus] → t.mstatus = s.mstatus) ∧
    (c ≠ .mepc → t.mepc = s.mepc) ∧ (c ≠ .sepc → t.sepc = s.sepc) ∧ (c ≠ .mcause → t.mcause = s.mcause) ∧
    (c ≠ .mtval → t.mtval = s.mtval) ∧ (c ≠ .mscratch → t.mscratch = s.mscratch) ∧
    (c ≠ .mtvec → t.mtvec = s.mtvec) ∧ (c ≠ .scause → t.scause = s.scause) ∧ (c ≠ .stval → t.stval = s.stval) ∧
    (c ≠ .sscratch → t.sscratch = s.sscratch) ∧ (c ≠ .stvec → t.stvec = s.stvec) ∧
    (c ∉ [Csr.mie, .sie] → t.mie = s.mie) ∧ (c ∉ [Csr.mip, .sip] → t.mip = s.mip) ∧
    (c ≠ .mcounteren → t.mcounteren = s.mcounteren) ∧ (c ≠ .scounteren → t.scounteren = s.scounteren) ∧
    (c ∉ [Csr.mcycle, .mcycleh] → t.mcycle = s.mcycle) ∧
    (c ∉ [Csr.minstret, .minstreth] → t.minstret = s.minstret + 1)

/-! ## Exceptions and privilege -/

/-- R646, R647: ecall traps with cause 8, 9 or 11 by mode and value 0, ebreak and c.ebreak with cause 3 and pc as
value; none of them retires. The causes are the spec's decision D16; what is recorded for a breakpoint it gives from
general knowledge. -/
def Obligations.EnvironmentCallAndBreakpoint : Prop :=
  ∀ (s : State), s.cfg.trapModel = .full →
    (∃ t, exec .ecall s = .next t ∧ t.mcause = BitVec.ofNat 64 (8 + Priv.level s.priv) ∧ t.mtval = 0 ∧
      t.mepc = s.epcOf s.pc ∧ t.minstret = s.minstret ∧ t = s.enterTrap false (8 + Priv.level s.priv) 0) ∧
    (∃ t, exec .ebreak s = .next t ∧ t.mcause = 3 ∧ t.mtval = s.norm s.pc ∧ t.mepc = s.epcOf s.pc ∧
      t.minstret = s.minstret ∧ t = s.enterTrap false 3 s.pc) ∧
    (s.cfg.extC = true →
      ∃ t, exec .cEbreak s = .next t ∧ t.mcause = 3 ∧ t.mtval = s.norm s.pc ∧ t.mepc = s.epcOf s.pc ∧
        t.minstret = s.minstret ∧ t = s.enterTrap false 3 s.pc)

/-- R652, R654: trap entry, its seven assignments, and that nothing else changes; and the handler's address, for a legal
mtvec of XLEN bits. For an exception pc is the address of the instruction; for an interrupt, of the one not yet executed.
The entry and the address are the spec's decision D15. -/
def Obligations.TrapEntryReachesHandler : Prop :=
  (∀ (s : State) (irq : Bool) (code : Nat) (v : Word), s.cfg.trapModel = .full → code < 16 →
     ∃ t, s.trap irq code v = .next t ∧
       t.mepc = s.norm (if s.cfg.extC then s.pc &&& ~~~ 1#64 else s.pc &&& ~~~ 3#64) ∧
       t.mcause.toNat = (if irq then 2 ^ (s.width - 1) else 0) + code ∧
       t.mtval = s.norm v ∧
       t.mstatus = { s.mstatus with mpp := s.priv, mpie := s.mstatus.mie, mie := false } ∧
       t.priv = .machine ∧ t.reservation = none ∧ t.pc = s.handler irq code ∧
       t = { s with
         mepc := t.mepc, mcause := t.mcause, mtval := t.mtval, mstatus := t.mstatus, priv := t.priv,
         reservation := t.reservation, pc := t.pc } ∧
       (∀ i ∈ [(Cause.instructionAddressMisaligned, 0), (.instructionAccessFault, 1), (.illegalInstruction, 2),
           (.breakpoint, 3), (.loadAddressMisaligned, 4), (.loadAccessFault, 5), (.storeAddressMisaligned, 6),
           (.storeAccessFault, 7), (.environmentCall .user, 8), (.environmentCall .supervisor, 9),
           (.environmentCall .machine, 11)], s.raise i.1 v = s.trap false i.2 v)) ∧
  (∀ (s : State) (irq : Bool) (code : Nat), s.fits s.mtvec = true → s.mtvec.getLsbD 1 = false → code < 16 →
     let base := s.mtvec.toNat / 4 * 4
     (s.mtvec.toNat % 4 = 0 → (s.handler irq code).toNat = base) ∧
     (s.mtvec.toNat % 4 = 1 → (s.handler false code).toNat = base ∧
       (s.handler true code).toNat = (base + 4 * code) % 2 ^ s.width))

/-- R655, R656, R643 (g), R37: mret in M-mode, and sret where it is legal: pc, mode and mstatus restored, the reservation
gone, retired; elsewhere IllegalInstruction. That the reservation goes is the spec's decision D10, where the returns are
legal its decision D19, that they count as retired its decision D24. -/
def Obligations.TrapReturnsRestore : Prop :=
  (∀ (s : State),
     (s.priv = .machine → s.epcsMasked = true →
       ∃ t, exec .mret s = .next t ∧ t.pc = s.mepc ∧ t.priv = s.mstatus.mpp ∧
         t.mstatus.mie = s.mstatus.mpie ∧ t.mstatus.mpie = true ∧ (s.cfg.hasU = true → t.mstatus.mpp = .user) ∧
         (s.cfg.hasU = false → t.mstatus.mpp = s.mstatus.mpp) ∧
         (s.cfg.hasU = false → Params.legal s.cfg = true → s.modesExist = true → t.mstatus.mpp = .machine) ∧
         t.reservation = none ∧ t.minstret = s.minstret + 1 ∧
         t = { s with
           pc := t.pc, priv := t.priv, reservation := t.reservation, minstret := t.minstret
           mstatus := { s.mstatus with mie := t.mstatus.mie, mpie := t.mstatus.mpie, mpp := t.mstatus.mpp } }) ∧
     (s.priv ≠ .machine → exec .mret s = s.illegal .mret)) ∧
  (∀ (s : State),
     (s.cfg.hasS = true → s.epcsMasked = true → s.priv = .machine ∨ (s.priv = .supervisor ∧ s.mstatus.tsr = false) →
       ∃ t, exec .sret s = .next t ∧ t.pc = s.sepc ∧
         (s.mstatus.spp = true → t.priv = .supervisor) ∧ (s.mstatus.spp = false → t.priv = .user) ∧
         t.mstatus.sie = s.mstatus.spie ∧ t.mstatus.spie = true ∧ t.mstatus.spp = false ∧
         t.reservation = none ∧ t.minstret = s.minstret + 1 ∧
         t = { s with
           pc := t.pc, priv := t.priv, reservation := t.reservation, minstret := t.minstret
           mstatus := { s.mstatus with sie := t.mstatus.sie, spie := t.mstatus.spie, spp := t.mstatus.spp } }) ∧
     (s.cfg.hasS = false ∨ s.priv = .user ∨ (s.priv = .supervisor ∧ s.mstatus.tsr = true) →
       exec .sret s = s.illegal .sret))

/-- R175, R404 (b), R643 (b), (d), (e), (j), R642: an instruction whose extension is absent, that the XLEN has not,
whose shift amount is 32 or more on XLEN = 32, or a floating-point one with FS Off, raises IllegalInstruction with its
own bits as value. But for the shift amounts these are the spec's decisions D12, D29 and D30. -/
def Obligations.UnavailableInstructionsAreIllegal : Prop :=
  ∀ (s : State) (i : Instr),
    (Params.has s.cfg i.ext = false → exec i s = s.raise .illegalInstruction (encode i).value) ∧
    (∀ x, i.xlenOnly = some x → x ≠ s.cfg.xlen → exec i s = s.raise .illegalInstruction (encode i).value) ∧
    (s.cfg.xlen = .rv32 → 32 ≤ i.shamt.toNat → exec i s = s.raise .illegalInstruction (encode i).value) ∧
    (Ext.isFloat i.ext = true → s.mstatus.fs = 0 → exec i s = s.raise .illegalInstruction (encode i).value)

/-- R402: the effective rounding mode, and IllegalInstruction, for every instruction with an rm field, when there is
none. The table is the spec's decision D22. -/
def Obligations.RoundingModesSelect : Prop :=
  ∀ (s : State) (i : Instr) (rm : BitVec 3),
    (s.rounding 0 = some .nearestEven ∧ s.rounding 1 = some .towardZero ∧ s.rounding 2 = some .down ∧
      s.rounding 3 = some .up ∧ s.rounding 4 = some .nearestMax ∧ s.rounding 5 = none ∧ s.rounding 6 = none) ∧
    (s.frm.toNat < 5 → s.rounding 7 = s.rounding s.frm) ∧ (5 ≤ s.frm.toNat → s.rounding 7 = none) ∧
    (i.rm = some rm → s.rounding rm = none → s.permits i = true → exec i s = s.illegal i)

/-- R669: under TrapModel = terminal a trap ends the run, tagged with its code, value and epc. It is the spec's
decision D26. That the end is the fault `trapped`, with a flag for interrupts, is the model's choice (log 22); so is what an
interrupt does there, of which R669 only says that IRQ must be empty (log 37). -/
def Obligations.TerminalTrapsEndTheRun : Prop :=
  ∀ (s : State) (irq : Bool) (code : Nat) (v : Word), s.cfg.trapModel = .terminal →
    s.trap irq code v = .fault (.trapped irq code (s.norm v) s.pc) ∧
    exec .ecall s = .fault (.trapped false (8 + Priv.level s.priv) 0 s.pc) ∧
    exec .ebreak s = .fault (.trapped false 3 (s.norm s.pc) s.pc)

/-! ## Atomics -/

/-- R360 to R378: the old value to x[rd], the new one to memory, as one step. -/
def Obligations.AtomicOperationsComplete : Prop :=
  ∀ (s : State) (aq rl : Bool) (rd rs1 rs2 : Reg), s.cfg.extA = true →
    let a := s.getX rs1
    (s.grantedAll .atomic a 4 → s.multipleOf a 4 →
      let old := s.leNat a 4
      let v := s.unsignedW rs2
      let done : Nat → Result :=
        fun new => .next ((s.writeBytes a 4 (BitVec.ofNat 64 (new % 2 ^ 32))).wrote 4 rd (s.word (twos 32 old)))
      exec (.amoaddW aq rl rd rs1 rs2) s = done (old + v) ∧
      exec (.amoswapW aq rl rd rs1 rs2) s = done v ∧
      exec (.amoandW aq rl rd rs1 rs2) s = done (old &&& v) ∧
      exec (.amoorW aq rl rd rs1 rs2) s = done (old ||| v) ∧
      exec (.amoxorW aq rl rd rs1 rs2) s = done (old ^^^ v) ∧
      exec (.amominW aq rl rd rs1 rs2) s = done (if twos 32 old ≤ twos 32 v then old else v) ∧
      exec (.amomaxW aq rl rd rs1 rs2) s = done (if twos 32 old ≤ twos 32 v then v else old) ∧
      exec (.amominuW aq rl rd rs1 rs2) s = done (min old v) ∧
      exec (.amomaxuW aq rl rd rs1 rs2) s = done (max old v)) ∧
    (s.cfg.xlen = .rv64 → s.grantedAll .atomic a 8 → s.multipleOf a 8 →
      let old := s.leNat a 8
      let v := s.unsignedX rs2
      let done : Nat → Result :=
        fun new => .next ((s.writeBytes a 8 (BitVec.ofNat 64 (new % 2 ^ 64))).wrote 4 rd (s.word old))
      exec (.amoaddD aq rl rd rs1 rs2) s = done (old + v) ∧
      exec (.amoswapD aq rl rd rs1 rs2) s = done v ∧
      exec (.amoandD aq rl rd rs1 rs2) s = done (old &&& v) ∧
      exec (.amoorD aq rl rd rs1 rs2) s = done (old ||| v) ∧
      exec (.amoxorD aq rl rd rs1 rs2) s = done (old ^^^ v) ∧
      exec (.amominD aq rl rd rs1 rs2) s = done (if twos 64 old ≤ twos 64 v then old else v) ∧
      exec (.amomaxD aq rl rd rs1 rs2) s = done (if twos 64 old ≤ twos 64 v then v else old) ∧
      exec (.amominuD aq rl rd rs1 rs2) s = done (min old v) ∧
      exec (.amomaxuD aq rl rd rs1 rs2) s = done (max old v))

/-- R41, R91, R379 to R382: lr gives the value and the reservation of exactly its bytes; with the reservation of exactly
these bytes an sc stores and writes 0, or fails spuriously where the parameters allow it (log 11); without it, where no
byte is forbidden, it stores nothing and writes SC_FAIL_CODE; the reservation is gone. The extent and the conditions are the
spec's decision D10. -/
def Obligations.ReservationsAreMadeAndUsed : Prop :=
  ∀ (s : State) (aq rl : Bool) (rd rs1 rs2 : Reg), s.cfg.extA = true →
    let a := s.getX rs1
    let success := fun n => Host.Outcome.next ({ s.writeBytes a n (s.getX rs2) with reservation := none }.wrote 4 rd 0)
    let failure := Host.Outcome.next ({ s with reservation := none }.wrote 4 rd s.cfg.scFailCode)
    (s.grantedAll .load a 4 → s.multipleOf a 4 →
      exec (.lrW aq rl rd rs1) s =
        .next ({ s with reservation := some ⟨a, 4⟩ }.wrote 4 rd (s.word (twos 32 (s.leNat a 4))))) ∧
    (s.cfg.xlen = .rv64 → s.grantedAll .load a 8 → s.multipleOf a 8 →
      exec (.lrD aq rl rd rs1) s =
        .next ({ s with reservation := some ⟨a, 8⟩ }.wrote 4 rd (s.word (s.leNat a 8)))) ∧
    (s.grantedAll .atomic a 4 → s.multipleOf a 4 →
      (s.reservation = some ⟨a, 4⟩ → s.cfg.scChoice = .pinned → exec (.scW aq rl rd rs1 rs2) s = success 4) ∧
      (s.reservation = some ⟨a, 4⟩ →
        exec (.scW aq rl rd rs1 rs2) s = success 4 ∨ exec (.scW aq rl rd rs1 rs2) s = failure)) ∧
    ((∀ k < 4, s.forbidden .atomic (a + BitVec.ofNat 64 k) = false) → s.multipleOf a 4 →
      s.reservation ≠ some ⟨a, 4⟩ → exec (.scW aq rl rd rs1 rs2) s = failure) ∧
    (s.cfg.xlen = .rv64 → s.grantedAll .atomic a 8 → s.multipleOf a 8 →
      (s.reservation = some ⟨a, 8⟩ → s.cfg.scChoice = .pinned → exec (.scD aq rl rd rs1 rs2) s = success 8) ∧
      (s.reservation = some ⟨a, 8⟩ →
        exec (.scD aq rl rd rs1 rs2) s = success 8 ∨ exec (.scD aq rl rd rs1 rs2) s = failure)) ∧
    (s.cfg.xlen = .rv64 → (∀ k < 8, s.forbidden .atomic (a + BitVec.ofNat 64 k) = false) → s.multipleOf a 8 →
      s.reservation ≠ some ⟨a, 8⟩ → exec (.scD aq rl rd rs1 rs2) s = failure)

/-! ## Floating point -/

/-- R404 to R434: single-precision arithmetic, with the numeric functions of R401. What these compute, and that `negate`
changes the sign, is in ArithmeticRoundsExactResults and the statements after it. -/
def Obligations.SingleArithmeticCompletes : Prop :=
  ∀ (s : State) (rm : BitVec 3) (m : Rounding) (rd rs1 rs2 rs3 : FReg), s.singleOn → s.rounding rm = some m →
    let a := (s.getS rs1).toNat
    let b := (s.getS rs2).toNat
    let c := (s.getS rs3).toNat
    let neg := Fp.negate Fp.single
    exec (.faddS rm rd rs1 rs2) s = .next (s.wroteS rd (Fp.add Fp.single m a b)) ∧
    exec (.fsubS rm rd rs1 rs2) s = .next (s.wroteS rd (Fp.add Fp.single m a (neg b))) ∧
    exec (.fmulS rm rd rs1 rs2) s = .next (s.wroteS rd (Fp.mul Fp.single m a b)) ∧
    exec (.fdivS rm rd rs1 rs2) s = .next (s.wroteS rd (Fp.div Fp.single m a b)) ∧
    exec (.fsqrtS rm rd rs1) s = .next (s.wroteS rd (Fp.sqrt Fp.single m a)) ∧
    exec (.fmaddS rm rd rs1 rs2 rs3) s = .next (s.wroteS rd (Fp.fma Fp.single m a b c)) ∧
    exec (.fmsubS rm rd rs1 rs2 rs3) s = .next (s.wroteS rd (Fp.fma Fp.single m a b (neg c))) ∧
    exec (.fnmsubS rm rd rs1 rs2 rs3) s = .next (s.wroteS rd (Fp.fma Fp.single m (neg a) b c)) ∧
    exec (.fnmaddS rm rd rs1 rs2 rs3) s = .next (s.wroteS rd (Fp.fma Fp.single m (neg a) b (neg c))) ∧
    exec (.fminS rd rs1 rs2) s = .next (s.wroteS rd (Fp.min Fp.single a b)) ∧
    exec (.fmaxS rd rs1 rs2) s = .next (s.wroteS rd (Fp.max Fp.single a b)) ∧
    (s.doubleOn → exec (.fcvtSD rm rd rs1) s =
      .next (s.wroteS rd (Fp.convert Fp.double Fp.single m (s.getF rs1).toNat)))

/-- R404, R450 to R482: double-precision arithmetic, with the same numeric functions. -/
def Obligations.DoubleArithmeticCompletes : Prop :=
  ∀ (s : State) (rm : BitVec 3) (m : Rounding) (rd rs1 rs2 rs3 : FReg), s.doubleOn → s.rounding rm = some m →
    let a := (s.getF rs1).toNat
    let b := (s.getF rs2).toNat
    let c := (s.getF rs3).toNat
    let neg := Fp.negate Fp.double
    exec (.faddD rm rd rs1 rs2) s = .next (s.wroteD rd (Fp.add Fp.double m a b)) ∧
    exec (.fsubD rm rd rs1 rs2) s = .next (s.wroteD rd (Fp.add Fp.double m a (neg b))) ∧
    exec (.fmulD rm rd rs1 rs2) s = .next (s.wroteD rd (Fp.mul Fp.double m a b)) ∧
    exec (.fdivD rm rd rs1 rs2) s = .next (s.wroteD rd (Fp.div Fp.double m a b)) ∧
    exec (.fsqrtD rm rd rs1) s = .next (s.wroteD rd (Fp.sqrt Fp.double m a)) ∧
    exec (.fmaddD rm rd rs1 rs2 rs3) s = .next (s.wroteD rd (Fp.fma Fp.double m a b c)) ∧
    exec (.fmsubD rm rd rs1 rs2 rs3) s = .next (s.wroteD rd (Fp.fma Fp.double m a b (neg c))) ∧
    exec (.fnmsubD rm rd rs1 rs2 rs3) s = .next (s.wroteD rd (Fp.fma Fp.double m (neg a) b c)) ∧
    exec (.fnmaddD rm rd rs1 rs2 rs3) s = .next (s.wroteD rd (Fp.fma Fp.double m (neg a) b (neg c))) ∧
    exec (.fminD rd rs1 rs2) s = .next (s.wroteD rd (Fp.min Fp.double a b)) ∧
    exec (.fmaxD rd rs1 rs2) s = .next (s.wroteD rd (Fp.max Fp.double a b)) ∧
    exec (.fcvtDS rm rd rs1) s = .next (s.wroteD rd (Fp.convert Fp.single Fp.double m (s.getS rs1).toNat))

/-- R401 (e) to (g), R404 (a), R407 to R418, R453 to R467: comparisons, and conversions between integers and floating
point. That a comparison or a conversion to an x register makes FS Dirty even when it signals no new flag (`accrue`, in
`wroteI`) is the model's reading of R404 (c) (log 19). -/
def Obligations.ComparisonsAndConversionsComplete : Prop :=
  ∀ (s : State) (rm : BitVec 3) (m : Rounding) (rd rs1 : Reg) (fd f1 f2 : FReg), s.rounding rm = some m →
    let truth := fun (r : Bool × BitVec 5) => Host.Outcome.next (s.wroteI rd (if r.1 then 1 else 0) r.2)
    let narrow := fun (r : Int × BitVec 5) => Host.Outcome.next (s.wroteI rd (twos 32 (r.1 % 2 ^ 32).toNat) r.2)
    let long := fun (r : Int × BitVec 5) => Host.Outcome.next (s.wroteI rd r.1 r.2)
    (s.singleOn →
      let a := (s.getS f1).toNat
      let b := (s.getS f2).toNat
      exec (.feqS rd f1 f2) s = truth (Fp.eq Fp.single a b) ∧
      exec (.fltS rd f1 f2) s = truth (Fp.lt Fp.single a b) ∧
      exec (.fleS rd f1 f2) s = truth (Fp.le Fp.single a b) ∧
      exec (.fcvtWS rm rd f1) s = narrow (Fp.toInt Fp.single m a true 32) ∧
      exec (.fcvtWuS rm rd f1) s = narrow (Fp.toInt Fp.single m a false 32) ∧
      exec (.fcvtSW rm fd rs1) s = .next (s.wroteS fd (Fp.ofInt Fp.single m (s.signedW rs1))) ∧
      exec (.fcvtSWu rm fd rs1) s = .next (s.wroteS fd (Fp.ofInt Fp.single m (s.unsignedW rs1))) ∧
      (s.cfg.xlen = .rv64 →
        exec (.fcvtLS rm rd f1) s = long (Fp.toInt Fp.single m a true 64) ∧
        exec (.fcvtLuS rm rd f1) s = long (Fp.toInt Fp.single m a false 64) ∧
        exec (.fcvtSL rm fd rs1) s = .next (s.wroteS fd (Fp.ofInt Fp.single m (s.signedX rs1))) ∧
        exec (.fcvtSLu rm fd rs1) s = .next (s.wroteS fd (Fp.ofInt Fp.single m (s.unsignedX rs1))))) ∧
    (s.doubleOn →
      let a := (s.getF f1).toNat
      let b := (s.getF f2).toNat
      exec (.feqD rd f1 f2) s = truth (Fp.eq Fp.double a b) ∧
      exec (.fltD rd f1 f2) s = truth (Fp.lt Fp.double a b) ∧
      exec (.fleD rd f1 f2) s = truth (Fp.le Fp.double a b) ∧
      exec (.fcvtWD rm rd f1) s = narrow (Fp.toInt Fp.double m a true 32) ∧
      exec (.fcvtWuD rm rd f1) s = narrow (Fp.toInt Fp.double m a false 32) ∧
      exec (.fcvtDW rm fd rs1) s =
        .next ((s.setF fd (BitVec.ofNat 64 (Fp.ofInt Fp.double m (s.signedW rs1)).1)).passed 4) ∧
      exec (.fcvtDWu rm fd rs1) s =
        .next ((s.setF fd (BitVec.ofNat 64 (Fp.ofInt Fp.double m (s.unsignedW rs1)).1)).passed 4) ∧
      (s.cfg.xlen = .rv64 →
        exec (.fcvtLD rm rd f1) s = long (Fp.toInt Fp.double m a true 64) ∧
        exec (.fcvtLuD rm rd f1) s = long (Fp.toInt Fp.double m a false 64) ∧
        exec (.fcvtDL rm fd rs1) s = .next (s.wroteD fd (Fp.ofInt Fp.double m (s.signedX rs1))) ∧
        exec (.fcvtDLu rm fd rs1) s = .next (s.wroteD fd (Fp.ofInt Fp.double m (s.unsignedX rs1)))))

/-- R401 (i), R404, R406, R425, R426, R429 to R431, R452, R473, R474, R478 to R480: moves, signs and classes: bits only,
no flag; and the class of every pattern. -/
def Obligations.MovesSignsAndClassesComplete : Prop :=
  (∀ (s : State) (rd rs1 : Reg) (fd f1 f2 : FReg),
     (s.singleOn →
       let a := (s.getS f1).toNat
       let b := (s.getS f2).toNat
       let signed := fun sign : Nat => Host.Outcome.next ((s.setS fd (BitVec.ofNat 32 (a % 2 ^ 31 + sign * 2 ^ 31))).passed 4)
       exec (.fmvWX fd rs1) s = .next ((s.setS fd (BitVec.ofNat 32 (s.unsignedW rs1))).passed 4) ∧
       exec (.fmvXW rd f1) s = .next (s.wrote 4 rd (s.word (twos 32 ((s.getF f1).toNat % 2 ^ 32)))) ∧
       exec (.fclassS rd f1) s = .next (s.wrote 4 rd (s.word (2 ^ Fp.classify Fp.single a))) ∧
       exec (.fsgnjS fd f1 f2) s = signed (b / 2 ^ 31) ∧
       exec (.fsgnjnS fd f1 f2) s = signed (1 - b / 2 ^ 31) ∧
       exec (.fsgnjxS fd f1 f2) s = signed ((a / 2 ^ 31 + b / 2 ^ 31) % 2)) ∧
     (s.doubleOn →
       let a := (s.getF f1).toNat
       let b := (s.getF f2).toNat
       let signed := fun sign : Nat => Host.Outcome.next ((s.setF fd (BitVec.ofNat 64 (a % 2 ^ 63 + sign * 2 ^ 63))).passed 4)
       (s.cfg.xlen = .rv64 → exec (.fmvDX fd rs1) s = .next ((s.setF fd (s.getX rs1)).passed 4) ∧
         exec (.fmvXD rd f1) s = .next (s.wrote 4 rd (s.getF f1))) ∧
       exec (.fclassD rd f1) s = .next (s.wrote 4 rd (s.word (2 ^ Fp.classify Fp.double a))) ∧
       exec (.fsgnjD fd f1 f2) s = signed (b / 2 ^ 63) ∧
       exec (.fsgnjnD fd f1 f2) s = signed (1 - b / 2 ^ 63) ∧
       exec (.fsgnjxD fd f1 f2) s = signed ((a / 2 ^ 63 + b / 2 ^ 63) % 2))) ∧
  (∀ (F : Fp.Format) (a : Nat), F = Fp.single ∨ F = Fp.double → a < 2 * F.signBit →
    let p := a % F.signBit
    let least := 2 ^ F.fracBits
    let signed := fun neg pos : Nat => if Fp.negative F a then neg else pos
    (p = F.infPattern → Fp.classify F a = signed 0 7) ∧
    (least ≤ p → p < F.infPattern → Fp.classify F a = signed 1 6) ∧
    (0 < p → p < least → Fp.classify F a = signed 2 5) ∧
    (p = 0 → Fp.classify F a = signed 3 4) ∧
    (Fp.signalingPattern F a = true → Fp.classify F a = 8) ∧
    (Fp.nanPattern F a = true → Fp.signalingPattern F a = false → Fp.classify F a = 9))

/-- R29, R403: how a single sits in a 64-bit register, and what an unboxed one reads as. Boxing is the spec's decision
D22. -/
def Obligations.SinglesAreBoxed : Prop :=
  ∀ (s : State) (i j : FReg) (v : BitVec 32) (w : Word),
    (s.setS i v).getS i = v ∧ (s.setF i w).mstatus.fs = 3 ∧
    (j ≠ i → (s.setF i w).getF j = s.getF j) ∧
    (s.cfg.extD = true →
      (s.setF i w).getF i = w ∧
      ((s.setS i v).getF i).toNat = 0xFFFFFFFF * 2 ^ 32 + v.toNat ∧
      (w.toNat / 2 ^ 32 = 0xFFFFFFFF → ((s.setF i w).getS i).toNat = w.toNat % 2 ^ 32) ∧
      (w.toNat / 2 ^ 32 ≠ 0xFFFFFFFF → (s.setF i w).getS i = 0x7FC00000#32)) ∧
    (s.cfg.extD = false → ((s.setF i w).getS i).toNat = w.toNat % 2 ^ 32)

/-- R401 (a), (c), R402: rounding an exact value m * 2^e is correct in every mode, with its overflow, underflow and inexact
flags. That the numeric functions are those of IEEE 754-2008 is the spec's decision D22. -/
def Obligations.RoundingIsCorrect : Prop :=
  ∀ (F : Fp.Format) (rm : Rounding) (neg : Bool) (m : Nat) (e : Int), F = Fp.single ∨ F = Fp.double → m ≠ 0 →
    Fp.Rounded F rm neg ((m : ℚ) * 2 ^ e) (Fp.round F rm neg m e)

/-- R401 (a), (c), (g), (h): on finite operands a sum, a product, a fused product and sum, a quotient, a conversion from an
integer or between the formats is the exact result rounded once; exact zeros have their sign, a zero divisor signals DZ or
NV; and `negate`, by which the differences and negated forms are sums, gives the negative number. That the numeric
functions are those of IEEE 754-2008 is the spec's decision D22. -/
def Obligations.ArithmeticRoundsExactResults : Prop :=
  ∀ (F G : Fp.Format) (rm : Rounding) (a b c : Nat) (i : Int),
    F = Fp.single ∨ F = Fp.double → G = Fp.single ∨ G = Fp.double →
    Fp.finite F a → Fp.finite F b → Fp.finite F c →
    let x := Fp.number F a
    let y := Fp.number F b
    let z := Fp.number F c
    let product := Fp.negative F a != Fp.negative F b
    let zeroSum := fun (sa sb : Bool) => (F.withSign (if sa = sb then sa else rm == .down) 0, (0 : BitVec 5))
    let exact := fun (H : Fp.Format) (v : ℚ) (zero r : Nat × BitVec 5) =>
      (v ≠ 0 → Fp.Rounded H rm (decide (v < 0)) |v| r) ∧ (v = 0 → r = zero)
    exact F (x + y) (zeroSum (Fp.negative F a) (Fp.negative F b)) (Fp.add F rm a b) ∧
    exact F (x * y) (F.withSign product 0, 0) (Fp.mul F rm a b) ∧
    exact F (x * y + z) (zeroSum product (Fp.negative F c)) (Fp.fma F rm a b c) ∧
    (y ≠ 0 → exact F (x / y) (F.withSign product 0, 0) (Fp.div F rm a b)) ∧
    (y = 0 → x ≠ 0 → Fp.div F rm a b = (F.withSign product F.infPattern, flagDZ)) ∧
    (y = 0 → x = 0 → Fp.div F rm a b = (F.nan, flagNV)) ∧
    exact F i (0, 0) (Fp.ofInt F rm i) ∧
    exact G x (G.withSign (Fp.negative F a) 0, 0) (Fp.convert F G rm a) ∧
    Fp.finite F (Fp.negate F a) ∧ Fp.number F (Fp.negate F a) = -x

/-- R401 (a), (c), (f): a square root is the exact root rounded, without overflow or underflow; a conversion to an integer
is the rounded value, or the nearer bound of the target with NV, NaNs as the greatest. That the numeric functions are those
of IEEE 754-2008 is the spec's decision D22. -/
def Obligations.RootsAndIntegerConversionsRound : Prop :=
  ∀ (F : Fp.Format) (rm : Rounding) (a : Nat) (signed : Bool) (width : Nat) (n : Int),
    F = Fp.single ∨ F = Fp.double → a < 2 * F.signBit → width = 32 ∨ width = 64 →
    let x := Fp.number F a
    let r := Fp.sqrt F rm a
    let mag := Fp.magnitude F
    let least : Int := if signed then -(2 ^ (width - 1)) else 0
    let greatest : Int := if signed then 2 ^ (width - 1) - 1 else 2 ^ width - 1
    let converted := Fp.toInt F rm a signed width
    (Fp.finite F a →
      (x = 0 → r = (a, 0)) ∧ (x < 0 → r = (F.nan, flagNV)) ∧
      (0 < x →
        0 < r.1 ∧ r.1 < F.infPattern ∧ r.2 = (if mag r.1 ^ 2 = x then 0 else flagNX) ∧
        (rm.inward false = true → mag r.1 ^ 2 ≤ x ∧ x < mag (r.1 + 1) ^ 2) ∧
        (rm.outward false = true → mag (r.1 - 1) ^ 2 < x ∧ x ≤ mag r.1 ^ 2) ∧
        (rm = .nearestEven ∨ rm = .nearestMax →
          (mag (r.1 - 1) + mag r.1) ^ 2 ≤ 4 * x ∧ 4 * x ≤ (mag r.1 + mag (r.1 + 1)) ^ 2)) ∧
      (Fp.RoundedToInt rm x n →
        converted = (if n < least then (least, flagNV) else if greatest < n then (greatest, flagNV)
          else (n, if (n : ℚ) = x then 0 else flagNX)))) ∧
    (Fp.infinitePattern F a = true → converted = (if Fp.negative F a then least else greatest, flagNV) ∧
      r = (if Fp.negative F a then (F.nan, flagNV) else (a, 0))) ∧
    (Fp.nanPattern F a = true → converted = (greatest, flagNV) ∧
      r = (F.nan, if Fp.signalingPattern F a then flagNV else 0))

/-- R401 (b), (c), (d), (h): every NaN result is the canonical NaN, NV marks a signaling operand or an invalid operation;
what infinities give; the least and the greatest of two operands, equal ones among them, -0 below +0; and that `negate`
changes the sign of any pattern and nothing else. That the numeric functions are those of
IEEE 754-2008 is the spec's decision D22. -/
def Obligations.SpecialOperandsGiveSpecialResults : Prop :=
  ∀ (F G : Fp.Format) (rm : Rounding) (a b c : Nat),
    F = Fp.single ∨ F = Fp.double → G = Fp.single ∨ G = Fp.double →
    a < 2 * F.signBit → b < 2 * F.signBit → c < 2 * F.signBit →
    let nan := Fp.nanPattern F
    let inf := Fp.infinitePattern F
    let zero := fun v => v % F.signBit == 0
    let neg := Fp.negative F
    let product := neg a != neg b
    let quiet := fun (H : Fp.Format) (signaling : Bool) => (H.nan, if signaling then flagNV else 0)
    let invalid := quiet F true
    let two := Fp.signalingPattern F a || Fp.signalingPattern F b
    (nan a || nan b →
      Fp.add F rm a b = quiet F two ∧ Fp.mul F rm a b = quiet F two ∧ Fp.div F rm a b = quiet F two) ∧
    (inf a && inf b →
      Fp.add F rm a b = (if neg a = neg b then (a, 0) else invalid) ∧
      Fp.mul F rm a b = (F.withSign product F.infPattern, 0) ∧ Fp.div F rm a b = invalid) ∧
    (inf a → Fp.finite F b →
      Fp.add F rm a b = (a, 0) ∧
      Fp.mul F rm a b = (if zero b then invalid else (F.withSign product F.infPattern, 0)) ∧
      Fp.div F rm a b = (F.withSign product F.infPattern, 0)) ∧
    (Fp.finite F a → inf b →
      Fp.add F rm a b = (b, 0) ∧
      Fp.mul F rm a b = (if zero a then invalid else (F.withSign product F.infPattern, 0)) ∧
      Fp.div F rm a b = (F.withSign product 0, 0)) ∧
    (let undefinedProduct := (inf a && zero b) || (zero a && inf b)
     (undefinedProduct → Fp.fma F rm a b c = invalid) ∧
     (!undefinedProduct → nan a || nan b || nan c →
       Fp.fma F rm a b c = quiet F (two || Fp.signalingPattern F c)) ∧
     (!undefinedProduct → !nan a → !nan b → !nan c → inf a || inf b →
       Fp.fma F rm a b c = (if inf c && neg c != product then invalid else (F.withSign product F.infPattern, 0))) ∧
     (Fp.finite F a → Fp.finite F b → inf c → Fp.fma F rm a b c = (c, 0))) ∧
    (nan a → Fp.convert F G rm a = quiet G (Fp.signalingPattern F a)) ∧
    (inf a → Fp.convert F G rm a = (G.withSign (neg a) G.infPattern, 0)) ∧
    (let flags : BitVec 5 := if two then flagNV else 0
     (nan a && nan b → Fp.min F a b = (F.nan, flags) ∧ Fp.max F a b = (F.nan, flags)) ∧
     (nan a && !nan b → Fp.min F a b = (b, flags) ∧ Fp.max F a b = (b, flags)) ∧
     (!nan a && nan b → Fp.min F a b = (a, flags) ∧ Fp.max F a b = (a, flags))) ∧
    (Fp.finite F a → Fp.finite F b → Fp.number F a < Fp.number F b ∨ (zero a && zero b && neg a && !neg b) = true →
      Fp.min F a b = (a, 0) ∧ Fp.min F b a = (a, 0) ∧ Fp.max F a b = (b, 0) ∧ Fp.max F b a = (b, 0)) ∧
    (inf a → Fp.finite F b →
      Fp.min F a b = (if neg a then a else b, 0) ∧ Fp.max F a b = (if neg a then b else a, 0) ∧
      Fp.min F b a = (if neg a then a else b, 0) ∧ Fp.max F b a = (if neg a then b else a, 0)) ∧
    (Fp.negate F a < 2 * F.signBit ∧ neg (Fp.negate F a) = !neg a ∧ Fp.negate F a % F.signBit = a % F.signBit) ∧
    (!nan a → Fp.min F a a = (a, 0) ∧ Fp.max F a a = (a, 0)) ∧
    (inf a && inf b && neg a && !neg b →
      Fp.min F a b = (a, 0) ∧ Fp.min F b a = (a, 0) ∧ Fp.max F a b = (b, 0) ∧ Fp.max F b a = (b, 0))

/-- R401 (d), (e): comparisons of finite values agree with their order as numbers, an infinity lies beyond every finite
value of its side and equals itself, and none of these signals; with a NaN they are false, and signal NV: always for lt
and le, for a signaling NaN for eq. It is the spec's decision D22. -/
def Obligations.ComparisonsAgreeWithValues : Prop :=
  ∀ (F : Fp.Format) (a b : Nat), F = Fp.single ∨ F = Fp.double → a < 2 * F.signBit → b < 2 * F.signBit →
    (Fp.finite F a → Fp.finite F b →
      ((Fp.eq F a b).1 = true ↔ Fp.number F a = Fp.number F b) ∧
      ((Fp.lt F a b).1 = true ↔ Fp.number F a < Fp.number F b) ∧
      ((Fp.le F a b).1 = true ↔ Fp.number F a ≤ Fp.number F b) ∧
      (Fp.eq F a b).2 = 0 ∧ (Fp.lt F a b).2 = 0 ∧ (Fp.le F a b).2 = 0) ∧
    (Fp.infinitePattern F a = true → Fp.infinitePattern F b = true →
      Fp.eq F a b = (Fp.negative F a == Fp.negative F b, 0) ∧
      Fp.lt F a b = (Fp.negative F a && !Fp.negative F b, 0) ∧
      Fp.le F a b = (Fp.negative F a || !Fp.negative F b, 0)) ∧
    (Fp.infinitePattern F a = true → Fp.finite F b →
      Fp.eq F a b = (false, 0) ∧ Fp.eq F b a = (false, 0) ∧
      Fp.lt F a b = (Fp.negative F a, 0) ∧ Fp.le F a b = (Fp.negative F a, 0) ∧
      Fp.lt F b a = (!Fp.negative F a, 0) ∧ Fp.le F b a = (!Fp.negative F a, 0)) ∧
    (F.infPattern < a % F.signBit ∨ F.infPattern < b % F.signBit →
      Fp.eq F a b = (false,
        if (F.infPattern < a % F.signBit ∧ a % F.signBit < F.nan) ∨
           (F.infPattern < b % F.signBit ∧ b % F.signBit < F.nan) then flagNV else 0) ∧
      Fp.lt F a b = (false, flagNV) ∧ Fp.le F a b = (false, flagNV))

/-! ## Frames -/

/-- R26, R200 (c), R260 (f), R280, R360 (f), R404: what an instruction that retires leaves as it was, for every instruction
but the CSR instructions (CsrInstructionFrame) and the returns (TrapReturnsRestore): all but
its destination registers, pc, minstret, the flags and FS of a floating-point one, and the bytes it stores to. -/
def Obligations.RetiredInstructionFrame : Prop :=
  ∀ (i : Instr) (s t : State), i.isCsr = false → i.isReturn = false → exec i s = .next t →
    t.minstret = s.minstret + 1 →
    Keeps i s t ∧
    (s.stores i = none → s.atomics i = none → ∀ b, t.byte b = s.byte b) ∧
    (∀ a n, s.stores i = some (a, n) ∨ s.atomics i = some (a, n) →
      ∀ b, (∀ k < n, s.norm b ≠ s.norm (a + BitVec.ofNat 64 k)) → t.byte b = s.byte b) ∧
    (s.stores i = none → s.atomics i = none → (∀ aq rl rd rs1, i ≠ .lrW aq rl rd rs1 ∧ i ≠ .lrD aq rl rd rs1) →
      t.reservation = s.reservation)

/-- R640, R652, R653: an instruction that raises an exception does not retire and has no effect but trap entry, the bytes a
split store wrote before its fault apart. -/
def Obligations.RaisingInstructionFrame : Prop :=
  ∀ (i : Instr) (s t : State), i.isCsr = false → i.isReturn = false → exec i s = .next t →
    t.minstret = s.minstret →
    t.priv = .machine ∧ t.mepc = s.epcOf s.pc ∧ t.reservation = none ∧
    t.mstatus = { s.mstatus with mpp := s.priv, mpie := s.mstatus.mie, mie := false } ∧
    (s.cfg.misaligned = .trap → t.mem = s.mem) ∧ (s.stores i = none → t.mem = s.mem) ∧
    (∀ a n, s.stores i = some (a, n) →
      ∀ b, (∀ k < n, s.norm b ≠ s.norm (a + BitVec.ofNat 64 k)) → t.byte b = s.byte b) ∧
    t = { s with
      mepc := t.mepc, mcause := t.mcause, mtval := t.mtval, mstatus := t.mstatus, priv := t.priv
      reservation := t.reservation, pc := t.pc, mem := t.mem }
end

