-- ==== Sys2Proof/Laws/Decode.lean ====
section
/-!
SUPPORT. Sys2Proof/Laws/Decode.lean: the fields of a word put together from its fields, and a word as its fields.
-/
namespace Sys2Proof

section Word32

variable (f7 : BitVec 7) (rs2 rs1 : BitVec 5) (f3 : BitVec 3) (rd : BitVec 5) (op : BitVec 7)

theorem bits_word32_op : bits (word32 f7 rs2 rs1 f3 rd op) 0 7 = op := by
  apply BitVec.eq_of_getLsbD_eq
  intro i hi
  simp only [bits, word32, BitVec.getLsbD_extractLsb', BitVec.getLsbD_append]
  interval_cases i <;> simp

theorem bits_word32_rd : bits (word32 f7 rs2 rs1 f3 rd op) 7 5 = rd := by
  apply BitVec.eq_of_getLsbD_eq
  intro i hi
  simp only [bits, word32, BitVec.getLsbD_extractLsb', BitVec.getLsbD_append]
  interval_cases i <;> simp

theorem bits_word32_f3 : bits (word32 f7 rs2 rs1 f3 rd op) 12 3 = f3 := by
  apply BitVec.eq_of_getLsbD_eq
  intro i hi
  simp only [bits, word32, BitVec.getLsbD_extractLsb', BitVec.getLsbD_append]
  interval_cases i <;> simp

theorem bits_word32_rs1 : bits (word32 f7 rs2 rs1 f3 rd op) 15 5 = rs1 := by
  apply BitVec.eq_of_getLsbD_eq
  intro i hi
  simp only [bits, word32, BitVec.getLsbD_extractLsb', BitVec.getLsbD_append]
  interval_cases i <;> simp

theorem bits_word32_rs2 : bits (word32 f7 rs2 rs1 f3 rd op) 20 5 = rs2 := by
  apply BitVec.eq_of_getLsbD_eq
  intro i hi
  simp only [bits, word32, BitVec.getLsbD_extractLsb', BitVec.getLsbD_append]
  interval_cases i <;> simp

theorem bits_word32_f7 : bits (word32 f7 rs2 rs1 f3 rd op) 25 7 = f7 := by
  apply BitVec.eq_of_getLsbD_eq
  intro i hi
  simp only [bits, word32, BitVec.getLsbD_extractLsb', BitVec.getLsbD_append]
  interval_cases i <;> simp

theorem bits_word32_length : bits (word32 f7 rs2 rs1 f3 rd op) 0 2 = bits op 0 2 := by
  apply BitVec.eq_of_getLsbD_eq
  intro i hi
  simp only [bits, word32, BitVec.getLsbD_extractLsb', BitVec.getLsbD_append]
  interval_cases i <;> simp

end Word32

/-- A 32-bit word is its six fields. -/
theorem word32_bits (w : BitVec 32) :
    word32 (bits w 25 7) (bits w 20 5) (bits w 15 5) (bits w 12 3) (bits w 7 5) (bits w 0 7) = w := by
  apply BitVec.eq_of_getLsbD_eq
  intro i hi
  simp only [bits, word32, BitVec.getLsbD_extractLsb', BitVec.getLsbD_append]
  interval_cases i <;> simp

section Half16

variable (f3 : BitVec 3) (b : BitVec 1) (a l : BitVec 5) (q : BitVec 2)

theorem bits_half16_q : bits (half16 f3 b a l q) 0 2 = q := by
  apply BitVec.eq_of_getLsbD_eq
  intro i hi
  simp only [bits, half16, BitVec.getLsbD_extractLsb', BitVec.getLsbD_append]
  interval_cases i <;> simp

theorem bits_half16_l : bits (half16 f3 b a l q) 2 5 = l := by
  apply BitVec.eq_of_getLsbD_eq
  intro i hi
  simp only [bits, half16, BitVec.getLsbD_extractLsb', BitVec.getLsbD_append]
  interval_cases i <;> simp

theorem bits_half16_a : bits (half16 f3 b a l q) 7 5 = a := by
  apply BitVec.eq_of_getLsbD_eq
  intro i hi
  simp only [bits, half16, BitVec.getLsbD_extractLsb', BitVec.getLsbD_append]
  interval_cases i <;> simp

theorem bits_half16_b : bits (half16 f3 b a l q) 12 1 = b := by
  apply BitVec.eq_of_getLsbD_eq
  intro i hi
  simp only [bits, half16, BitVec.getLsbD_extractLsb', BitVec.getLsbD_append]
  interval_cases i
  simp

theorem bits_half16_f3 : bits (half16 f3 b a l q) 13 3 = f3 := by
  apply BitVec.eq_of_getLsbD_eq
  intro i hi
  simp only [bits, half16, BitVec.getLsbD_extractLsb', BitVec.getLsbD_append]
  interval_cases i <;> simp

end Half16

/-- A halfword is its five fields. -/
theorem half16_bits (h : BitVec 16) : half16 (bits h 13 3) (bits h 12 1) (bits h 7 5) (bits h 2 5) (bits h 0 2) = h := by
  apply BitVec.eq_of_getLsbD_eq
  intro i hi
  simp only [bits, half16, BitVec.getLsbD_extractLsb', BitVec.getLsbD_append]
  interval_cases i <;> simp

end Sys2Proof
end

