-- ==== Sys2Proof/Laws/State.lean ====
section
/-!
SUPPORT. Sys2Proof/Laws/State.lean: what each field is after each update of the state, and what the accessors read after
it. No later proof unfolds a record update.
-/
namespace Sys2Proof.Machine

open Sys2Proof

variable (s : State)

/-! ### State.advance -/

@[simp] theorem State.advance_cfg (len : Word) : (s.advance len).cfg = s.cfg := rfl
@[simp] theorem State.advance_x (len : Word) : (s.advance len).x = s.x := rfl
@[simp] theorem State.advance_f (len : Word) : (s.advance len).f = s.f := rfl
@[simp] theorem State.advance_pc (len : Word) : (s.advance len).pc = s.norm (s.pc + len) := rfl
@[simp] theorem State.advance_fflags (len : Word) : (s.advance len).fflags = s.fflags := rfl
@[simp] theorem State.advance_frm (len : Word) : (s.advance len).frm = s.frm := rfl
@[simp] theorem State.advance_priv (len : Word) : (s.advance len).priv = s.priv := rfl
@[simp] theorem State.advance_mstatus (len : Word) : (s.advance len).mstatus = s.mstatus := rfl
@[simp] theorem State.advance_mepc (len : Word) : (s.advance len).mepc = s.mepc := rfl
@[simp] theorem State.advance_sepc (len : Word) : (s.advance len).sepc = s.sepc := rfl
@[simp] theorem State.advance_mcause (len : Word) : (s.advance len).mcause = s.mcause := rfl
@[simp] theorem State.advance_mtval (len : Word) : (s.advance len).mtval = s.mtval := rfl
@[simp] theorem State.advance_mscratch (len : Word) : (s.advance len).mscratch = s.mscratch := rfl
@[simp] theorem State.advance_mtvec (len : Word) : (s.advance len).mtvec = s.mtvec := rfl
@[simp] theorem State.advance_scause (len : Word) : (s.advance len).scause = s.scause := rfl
@[simp] theorem State.advance_stval (len : Word) : (s.advance len).stval = s.stval := rfl
@[simp] theorem State.advance_sscratch (len : Word) : (s.advance len).sscratch = s.sscratch := rfl
@[simp] theorem State.advance_stvec (len : Word) : (s.advance len).stvec = s.stvec := rfl
@[simp] theorem State.advance_mie (len : Word) : (s.advance len).mie = s.mie := rfl
@[simp] theorem State.advance_mip (len : Word) : (s.advance len).mip = s.mip := rfl
@[simp] theorem State.advance_lines (len : Word) : (s.advance len).lines = s.lines := rfl
@[simp] theorem State.advance_mcounteren (len : Word) : (s.advance len).mcounteren = s.mcounteren := rfl
@[simp] theorem State.advance_scounteren (len : Word) : (s.advance len).scounteren = s.scounteren := rfl
@[simp] theorem State.advance_mcycle (len : Word) : (s.advance len).mcycle = s.mcycle := rfl
@[simp] theorem State.advance_minstret (len : Word) : (s.advance len).minstret = s.minstret := rfl
@[simp] theorem State.advance_mtime (len : Word) : (s.advance len).mtime = s.mtime := rfl
@[simp] theorem State.advance_reservation (len : Word) : (s.advance len).reservation = s.reservation := rfl
@[simp] theorem State.advance_mem (len : Word) : (s.advance len).mem = s.mem := rfl
@[simp] theorem State.advance_imem (len : Word) : (s.advance len).imem = s.imem := rfl
@[simp] theorem State.advance_drawIndex (len : Word) : (s.advance len).drawIndex = s.drawIndex := rfl

/-! ### State.retire -/

@[simp] theorem State.retire_cfg : (s.retire).cfg = s.cfg := rfl
@[simp] theorem State.retire_x : (s.retire).x = s.x := rfl
@[simp] theorem State.retire_f : (s.retire).f = s.f := rfl
@[simp] theorem State.retire_pc : (s.retire).pc = s.pc := rfl
@[simp] theorem State.retire_fflags : (s.retire).fflags = s.fflags := rfl
@[simp] theorem State.retire_frm : (s.retire).frm = s.frm := rfl
@[simp] theorem State.retire_priv : (s.retire).priv = s.priv := rfl
@[simp] theorem State.retire_mstatus : (s.retire).mstatus = s.mstatus := rfl
@[simp] theorem State.retire_mepc : (s.retire).mepc = s.mepc := rfl
@[simp] theorem State.retire_sepc : (s.retire).sepc = s.sepc := rfl
@[simp] theorem State.retire_mcause : (s.retire).mcause = s.mcause := rfl
@[simp] theorem State.retire_mtval : (s.retire).mtval = s.mtval := rfl
@[simp] theorem State.retire_mscratch : (s.retire).mscratch = s.mscratch := rfl
@[simp] theorem State.retire_mtvec : (s.retire).mtvec = s.mtvec := rfl
@[simp] theorem State.retire_scause : (s.retire).scause = s.scause := rfl
@[simp] theorem State.retire_stval : (s.retire).stval = s.stval := rfl
@[simp] theorem State.retire_sscratch : (s.retire).sscratch = s.sscratch := rfl
@[simp] theorem State.retire_stvec : (s.retire).stvec = s.stvec := rfl
@[simp] theorem State.retire_mie : (s.retire).mie = s.mie := rfl
@[simp] theorem State.retire_mip : (s.retire).mip = s.mip := rfl
@[simp] theorem State.retire_lines : (s.retire).lines = s.lines := rfl
@[simp] theorem State.retire_mcounteren : (s.retire).mcounteren = s.mcounteren := rfl
@[simp] theorem State.retire_scounteren : (s.retire).scounteren = s.scounteren := rfl
@[simp] theorem State.retire_mcycle : (s.retire).mcycle = s.mcycle := rfl
@[simp] theorem State.retire_minstret : (s.retire).minstret = s.minstret + 1 := rfl
@[simp] theorem State.retire_mtime : (s.retire).mtime = s.mtime := rfl
@[simp] theorem State.retire_reservation : (s.retire).reservation = s.reservation := rfl
@[simp] theorem State.retire_mem : (s.retire).mem = s.mem := rfl
@[simp] theorem State.retire_imem : (s.retire).imem = s.imem := rfl
@[simp] theorem State.retire_drawIndex : (s.retire).drawIndex = s.drawIndex := rfl

/-! ### State.dirty -/

@[simp] theorem State.dirty_cfg : (s.dirty).cfg = s.cfg := rfl
@[simp] theorem State.dirty_x : (s.dirty).x = s.x := rfl
@[simp] theorem State.dirty_f : (s.dirty).f = s.f := rfl
@[simp] theorem State.dirty_pc : (s.dirty).pc = s.pc := rfl
@[simp] theorem State.dirty_fflags : (s.dirty).fflags = s.fflags := rfl
@[simp] theorem State.dirty_frm : (s.dirty).frm = s.frm := rfl
@[simp] theorem State.dirty_priv : (s.dirty).priv = s.priv := rfl
@[simp] theorem State.dirty_mstatus : (s.dirty).mstatus = { s.mstatus with fs := 3 } := rfl
@[simp] theorem State.dirty_mepc : (s.dirty).mepc = s.mepc := rfl
@[simp] theorem State.dirty_sepc : (s.dirty).sepc = s.sepc := rfl
@[simp] theorem State.dirty_mcause : (s.dirty).mcause = s.mcause := rfl
@[simp] theorem State.dirty_mtval : (s.dirty).mtval = s.mtval := rfl
@[simp] theorem State.dirty_mscratch : (s.dirty).mscratch = s.mscratch := rfl
@[simp] theorem State.dirty_mtvec : (s.dirty).mtvec = s.mtvec := rfl
@[simp] theorem State.dirty_scause : (s.dirty).scause = s.scause := rfl
@[simp] theorem State.dirty_stval : (s.dirty).stval = s.stval := rfl
@[simp] theorem State.dirty_sscratch : (s.dirty).sscratch = s.sscratch := rfl
@[simp] theorem State.dirty_stvec : (s.dirty).stvec = s.stvec := rfl
@[simp] theorem State.dirty_mie : (s.dirty).mie = s.mie := rfl
@[simp] theorem State.dirty_mip : (s.dirty).mip = s.mip := rfl
@[simp] theorem State.dirty_lines : (s.dirty).lines = s.lines := rfl
@[simp] theorem State.dirty_mcounteren : (s.dirty).mcounteren = s.mcounteren := rfl
@[simp] theorem State.dirty_scounteren : (s.dirty).scounteren = s.scounteren := rfl
@[simp] theorem State.dirty_mcycle : (s.dirty).mcycle = s.mcycle := rfl
@[simp] theorem State.dirty_minstret : (s.dirty).minstret = s.minstret := rfl
@[simp] theorem State.dirty_mtime : (s.dirty).mtime = s.mtime := rfl
@[simp] theorem State.dirty_reservation : (s.dirty).reservation = s.reservation := rfl
@[simp] theorem State.dirty_mem : (s.dirty).mem = s.mem := rfl
@[simp] theorem State.dirty_imem : (s.dirty).imem = s.imem := rfl
@[simp] theorem State.dirty_drawIndex : (s.dirty).drawIndex = s.drawIndex := rfl

/-! ### State.accrue -/

@[simp] theorem State.accrue_cfg (fl : BitVec 5) : (s.accrue fl).cfg = s.cfg := rfl
@[simp] theorem State.accrue_x (fl : BitVec 5) : (s.accrue fl).x = s.x := rfl
@[simp] theorem State.accrue_f (fl : BitVec 5) : (s.accrue fl).f = s.f := rfl
@[simp] theorem State.accrue_pc (fl : BitVec 5) : (s.accrue fl).pc = s.pc := rfl
@[simp] theorem State.accrue_fflags (fl : BitVec 5) : (s.accrue fl).fflags = s.fflags ||| fl := rfl
@[simp] theorem State.accrue_frm (fl : BitVec 5) : (s.accrue fl).frm = s.frm := rfl
@[simp] theorem State.accrue_priv (fl : BitVec 5) : (s.accrue fl).priv = s.priv := rfl
@[simp] theorem State.accrue_mstatus (fl : BitVec 5) : (s.accrue fl).mstatus = { s.mstatus with fs := 3 } := rfl
@[simp] theorem State.accrue_mepc (fl : BitVec 5) : (s.accrue fl).mepc = s.mepc := rfl
@[simp] theorem State.accrue_sepc (fl : BitVec 5) : (s.accrue fl).sepc = s.sepc := rfl
@[simp] theorem State.accrue_mcause (fl : BitVec 5) : (s.accrue fl).mcause = s.mcause := rfl
@[simp] theorem State.accrue_mtval (fl : BitVec 5) : (s.accrue fl).mtval = s.mtval := rfl
@[simp] theorem State.accrue_mscratch (fl : BitVec 5) : (s.accrue fl).mscratch = s.mscratch := rfl
@[simp] theorem State.accrue_mtvec (fl : BitVec 5) : (s.accrue fl).mtvec = s.mtvec := rfl
@[simp] theorem State.accrue_scause (fl : BitVec 5) : (s.accrue fl).scause = s.scause := rfl
@[simp] theorem State.accrue_stval (fl : BitVec 5) : (s.accrue fl).stval = s.stval := rfl
@[simp] theorem State.accrue_sscratch (fl : BitVec 5) : (s.accrue fl).sscratch = s.sscratch := rfl
@[simp] theorem State.accrue_stvec (fl : BitVec 5) : (s.accrue fl).stvec = s.stvec := rfl
@[simp] theorem State.accrue_mie (fl : BitVec 5) : (s.accrue fl).mie = s.mie := rfl
@[simp] theorem State.accrue_mip (fl : BitVec 5) : (s.accrue fl).mip = s.mip := rfl
@[simp] theorem State.accrue_lines (fl : BitVec 5) : (s.accrue fl).lines = s.lines := rfl
@[simp] theorem State.accrue_mcounteren (fl : BitVec 5) : (s.accrue fl).mcounteren = s.mcounteren := rfl
@[simp] theorem State.accrue_scounteren (fl : BitVec 5) : (s.accrue fl).scounteren = s.scounteren := rfl
@[simp] theorem State.accrue_mcycle (fl : BitVec 5) : (s.accrue fl).mcycle = s.mcycle := rfl
@[simp] theorem State.accrue_minstret (fl : BitVec 5) : (s.accrue fl).minstret = s.minstret := rfl
@[simp] theorem State.accrue_mtime (fl : BitVec 5) : (s.accrue fl).mtime = s.mtime := rfl
@[simp] theorem State.accrue_reservation (fl : BitVec 5) : (s.accrue fl).reservation = s.reservation := rfl
@[simp] theorem State.accrue_mem (fl : BitVec 5) : (s.accrue fl).mem = s.mem := rfl
@[simp] theorem State.accrue_imem (fl : BitVec 5) : (s.accrue fl).imem = s.imem := rfl
@[simp] theorem State.accrue_drawIndex (fl : BitVec 5) : (s.accrue fl).drawIndex = s.drawIndex := rfl

/-! ### State.setX -/

@[simp] theorem State.setX_cfg (i : Reg) (v : Word) : (s.setX i v).cfg = s.cfg := by unfold State.setX; split <;> rfl
@[simp] theorem State.setX_f (i : Reg) (v : Word) : (s.setX i v).f = s.f := by unfold State.setX; split <;> rfl
@[simp] theorem State.setX_pc (i : Reg) (v : Word) : (s.setX i v).pc = s.pc := by unfold State.setX; split <;> rfl
@[simp] theorem State.setX_fflags (i : Reg) (v : Word) : (s.setX i v).fflags = s.fflags := by unfold State.setX; split <;> rfl
@[simp] theorem State.setX_frm (i : Reg) (v : Word) : (s.setX i v).frm = s.frm := by unfold State.setX; split <;> rfl
@[simp] theorem State.setX_priv (i : Reg) (v : Word) : (s.setX i v).priv = s.priv := by unfold State.setX; split <;> rfl
@[simp] theorem State.setX_mstatus (i : Reg) (v : Word) : (s.setX i v).mstatus = s.mstatus := by unfold State.setX; split <;> rfl
@[simp] theorem State.setX_mepc (i : Reg) (v : Word) : (s.setX i v).mepc = s.mepc := by unfold State.setX; split <;> rfl
@[simp] theorem State.setX_sepc (i : Reg) (v : Word) : (s.setX i v).sepc = s.sepc := by unfold State.setX; split <;> rfl
@[simp] theorem State.setX_mcause (i : Reg) (v : Word) : (s.setX i v).mcause = s.mcause := by unfold State.setX; split <;> rfl
@[simp] theorem State.setX_mtval (i : Reg) (v : Word) : (s.setX i v).mtval = s.mtval := by unfold State.setX; split <;> rfl
@[simp] theorem State.setX_mscratch (i : Reg) (v : Word) : (s.setX i v).mscratch = s.mscratch := by unfold State.setX; split <;> rfl
@[simp] theorem State.setX_mtvec (i : Reg) (v : Word) : (s.setX i v).mtvec = s.mtvec := by unfold State.setX; split <;> rfl
@[simp] theorem State.setX_scause (i : Reg) (v : Word) : (s.setX i v).scause = s.scause := by unfold State.setX; split <;> rfl
@[simp] theorem State.setX_stval (i : Reg) (v : Word) : (s.setX i v).stval = s.stval := by unfold State.setX; split <;> rfl
@[simp] theorem State.setX_sscratch (i : Reg) (v : Word) : (s.setX i v).sscratch = s.sscratch := by unfold State.setX; split <;> rfl
@[simp] theorem State.setX_stvec (i : Reg) (v : Word) : (s.setX i v).stvec = s.stvec := by unfold State.setX; split <;> rfl
@[simp] theorem State.setX_mie (i : Reg) (v : Word) : (s.setX i v).mie = s.mie := by unfold State.setX; split <;> rfl
@[simp] theorem State.setX_mip (i : Reg) (v : Word) : (s.setX i v).mip = s.mip := by unfold State.setX; split <;> rfl
@[simp] theorem State.setX_lines (i : Reg) (v : Word) : (s.setX i v).lines = s.lines := by unfold State.setX; split <;> rfl
@[simp] theorem State.setX_mcounteren (i : Reg) (v : Word) : (s.setX i v).mcounteren = s.mcounteren := by unfold State.setX; split <;> rfl
@[simp] theorem State.setX_scounteren (i : Reg) (v : Word) : (s.setX i v).scounteren = s.scounteren := by unfold State.setX; split <;> rfl
@[simp] theorem State.setX_mcycle (i : Reg) (v : Word) : (s.setX i v).mcycle = s.mcycle := by unfold State.setX; split <;> rfl
@[simp] theorem State.setX_minstret (i : Reg) (v : Word) : (s.setX i v).minstret = s.minstret := by unfold State.setX; split <;> rfl
@[simp] theorem State.setX_mtime (i : Reg) (v : Word) : (s.setX i v).mtime = s.mtime := by unfold State.setX; split <;> rfl
@[simp] theorem State.setX_reservation (i : Reg) (v : Word) : (s.setX i v).reservation = s.reservation := by unfold State.setX; split <;> rfl
@[simp] theorem State.setX_mem (i : Reg) (v : Word) : (s.setX i v).mem = s.mem := by unfold State.setX; split <;> rfl
@[simp] theorem State.setX_imem (i : Reg) (v : Word) : (s.setX i v).imem = s.imem := by unfold State.setX; split <;> rfl
@[simp] theorem State.setX_drawIndex (i : Reg) (v : Word) : (s.setX i v).drawIndex = s.drawIndex := by unfold State.setX; split <;> rfl

/-! ### State.setF -/

@[simp] theorem State.setF_cfg (i : FReg) (v : Word) : (s.setF i v).cfg = s.cfg := rfl
@[simp] theorem State.setF_x (i : FReg) (v : Word) : (s.setF i v).x = s.x := rfl
@[simp] theorem State.setF_f (i : FReg) (v : Word) : (s.setF i v).f = s.f.set i.toNat v i.isLt := rfl
@[simp] theorem State.setF_pc (i : FReg) (v : Word) : (s.setF i v).pc = s.pc := rfl
@[simp] theorem State.setF_fflags (i : FReg) (v : Word) : (s.setF i v).fflags = s.fflags := rfl
@[simp] theorem State.setF_frm (i : FReg) (v : Word) : (s.setF i v).frm = s.frm := rfl
@[simp] theorem State.setF_priv (i : FReg) (v : Word) : (s.setF i v).priv = s.priv := rfl
@[simp] theorem State.setF_mstatus (i : FReg) (v : Word) : (s.setF i v).mstatus = { s.mstatus with fs := 3 } := rfl
@[simp] theorem State.setF_mepc (i : FReg) (v : Word) : (s.setF i v).mepc = s.mepc := rfl
@[simp] theorem State.setF_sepc (i : FReg) (v : Word) : (s.setF i v).sepc = s.sepc := rfl
@[simp] theorem State.setF_mcause (i : FReg) (v : Word) : (s.setF i v).mcause = s.mcause := rfl
@[simp] theorem State.setF_mtval (i : FReg) (v : Word) : (s.setF i v).mtval = s.mtval := rfl
@[simp] theorem State.setF_mscratch (i : FReg) (v : Word) : (s.setF i v).mscratch = s.mscratch := rfl
@[simp] theorem State.setF_mtvec (i : FReg) (v : Word) : (s.setF i v).mtvec = s.mtvec := rfl
@[simp] theorem State.setF_scause (i : FReg) (v : Word) : (s.setF i v).scause = s.scause := rfl
@[simp] theorem State.setF_stval (i : FReg) (v : Word) : (s.setF i v).stval = s.stval := rfl
@[simp] theorem State.setF_sscratch (i : FReg) (v : Word) : (s.setF i v).sscratch = s.sscratch := rfl
@[simp] theorem State.setF_stvec (i : FReg) (v : Word) : (s.setF i v).stvec = s.stvec := rfl
@[simp] theorem State.setF_mie (i : FReg) (v : Word) : (s.setF i v).mie = s.mie := rfl
@[simp] theorem State.setF_mip (i : FReg) (v : Word) : (s.setF i v).mip = s.mip := rfl
@[simp] theorem State.setF_lines (i : FReg) (v : Word) : (s.setF i v).lines = s.lines := rfl
@[simp] theorem State.setF_mcounteren (i : FReg) (v : Word) : (s.setF i v).mcounteren = s.mcounteren := rfl
@[simp] theorem State.setF_scounteren (i : FReg) (v : Word) : (s.setF i v).scounteren = s.scounteren := rfl
@[simp] theorem State.setF_mcycle (i : FReg) (v : Word) : (s.setF i v).mcycle = s.mcycle := rfl
@[simp] theorem State.setF_minstret (i : FReg) (v : Word) : (s.setF i v).minstret = s.minstret := rfl
@[simp] theorem State.setF_mtime (i : FReg) (v : Word) : (s.setF i v).mtime = s.mtime := rfl
@[simp] theorem State.setF_reservation (i : FReg) (v : Word) : (s.setF i v).reservation = s.reservation := rfl
@[simp] theorem State.setF_mem (i : FReg) (v : Word) : (s.setF i v).mem = s.mem := rfl
@[simp] theorem State.setF_imem (i : FReg) (v : Word) : (s.setF i v).imem = s.imem := rfl
@[simp] theorem State.setF_drawIndex (i : FReg) (v : Word) : (s.setF i v).drawIndex = s.drawIndex := rfl

/-! ### State.setS -/

@[simp] theorem State.setS_cfg (i : FReg) (v : BitVec 32) : (s.setS i v).cfg = s.cfg := rfl
@[simp] theorem State.setS_x (i : FReg) (v : BitVec 32) : (s.setS i v).x = s.x := rfl
@[simp] theorem State.setS_f (i : FReg) (v : BitVec 32) : (s.setS i v).f = s.f.set i.toNat (s.box v) i.isLt := rfl
@[simp] theorem State.setS_pc (i : FReg) (v : BitVec 32) : (s.setS i v).pc = s.pc := rfl
@[simp] theorem State.setS_fflags (i : FReg) (v : BitVec 32) : (s.setS i v).fflags = s.fflags := rfl
@[simp] theorem State.setS_frm (i : FReg) (v : BitVec 32) : (s.setS i v).frm = s.frm := rfl
@[simp] theorem State.setS_priv (i : FReg) (v : BitVec 32) : (s.setS i v).priv = s.priv := rfl
@[simp] theorem State.setS_mstatus (i : FReg) (v : BitVec 32) : (s.setS i v).mstatus = { s.mstatus with fs := 3 } := rfl
@[simp] theorem State.setS_mepc (i : FReg) (v : BitVec 32) : (s.setS i v).mepc = s.mepc := rfl
@[simp] theorem State.setS_sepc (i : FReg) (v : BitVec 32) : (s.setS i v).sepc = s.sepc := rfl
@[simp] theorem State.setS_mcause (i : FReg) (v : BitVec 32) : (s.setS i v).mcause = s.mcause := rfl
@[simp] theorem State.setS_mtval (i : FReg) (v : BitVec 32) : (s.setS i v).mtval = s.mtval := rfl
@[simp] theorem State.setS_mscratch (i : FReg) (v : BitVec 32) : (s.setS i v).mscratch = s.mscratch := rfl
@[simp] theorem State.setS_mtvec (i : FReg) (v : BitVec 32) : (s.setS i v).mtvec = s.mtvec := rfl
@[simp] theorem State.setS_scause (i : FReg) (v : BitVec 32) : (s.setS i v).scause = s.scause := rfl
@[simp] theorem State.setS_stval (i : FReg) (v : BitVec 32) : (s.setS i v).stval = s.stval := rfl
@[simp] theorem State.setS_sscratch (i : FReg) (v : BitVec 32) : (s.setS i v).sscratch = s.sscratch := rfl
@[simp] theorem State.setS_stvec (i : FReg) (v : BitVec 32) : (s.setS i v).stvec = s.stvec := rfl
@[simp] theorem State.setS_mie (i : FReg) (v : BitVec 32) : (s.setS i v).mie = s.mie := rfl
@[simp] theorem State.setS_mip (i : FReg) (v : BitVec 32) : (s.setS i v).mip = s.mip := rfl
@[simp] theorem State.setS_lines (i : FReg) (v : BitVec 32) : (s.setS i v).lines = s.lines := rfl
@[simp] theorem State.setS_mcounteren (i : FReg) (v : BitVec 32) : (s.setS i v).mcounteren = s.mcounteren := rfl
@[simp] theorem State.setS_scounteren (i : FReg) (v : BitVec 32) : (s.setS i v).scounteren = s.scounteren := rfl
@[simp] theorem State.setS_mcycle (i : FReg) (v : BitVec 32) : (s.setS i v).mcycle = s.mcycle := rfl
@[simp] theorem State.setS_minstret (i : FReg) (v : BitVec 32) : (s.setS i v).minstret = s.minstret := rfl
@[simp] theorem State.setS_mtime (i : FReg) (v : BitVec 32) : (s.setS i v).mtime = s.mtime := rfl
@[simp] theorem State.setS_reservation (i : FReg) (v : BitVec 32) : (s.setS i v).reservation = s.reservation := rfl
@[simp] theorem State.setS_mem (i : FReg) (v : BitVec 32) : (s.setS i v).mem = s.mem := rfl
@[simp] theorem State.setS_imem (i : FReg) (v : BitVec 32) : (s.setS i v).imem = s.imem := rfl
@[simp] theorem State.setS_drawIndex (i : FReg) (v : BitVec 32) : (s.setS i v).drawIndex = s.drawIndex := rfl

/-! ### State.setByte -/

@[simp] theorem State.setByte_cfg (a : Word) (v : Byte) : (s.setByte a v).cfg = s.cfg := rfl
@[simp] theorem State.setByte_x (a : Word) (v : Byte) : (s.setByte a v).x = s.x := rfl
@[simp] theorem State.setByte_f (a : Word) (v : Byte) : (s.setByte a v).f = s.f := rfl
@[simp] theorem State.setByte_pc (a : Word) (v : Byte) : (s.setByte a v).pc = s.pc := rfl
@[simp] theorem State.setByte_fflags (a : Word) (v : Byte) : (s.setByte a v).fflags = s.fflags := rfl
@[simp] theorem State.setByte_frm (a : Word) (v : Byte) : (s.setByte a v).frm = s.frm := rfl
@[simp] theorem State.setByte_priv (a : Word) (v : Byte) : (s.setByte a v).priv = s.priv := rfl
@[simp] theorem State.setByte_mstatus (a : Word) (v : Byte) : (s.setByte a v).mstatus = s.mstatus := rfl
@[simp] theorem State.setByte_mepc (a : Word) (v : Byte) : (s.setByte a v).mepc = s.mepc := rfl
@[simp] theorem State.setByte_sepc (a : Word) (v : Byte) : (s.setByte a v).sepc = s.sepc := rfl
@[simp] theorem State.setByte_mcause (a : Word) (v : Byte) : (s.setByte a v).mcause = s.mcause := rfl
@[simp] theorem State.setByte_mtval (a : Word) (v : Byte) : (s.setByte a v).mtval = s.mtval := rfl
@[simp] theorem State.setByte_mscratch (a : Word) (v : Byte) : (s.setByte a v).mscratch = s.mscratch := rfl
@[simp] theorem State.setByte_mtvec (a : Word) (v : Byte) : (s.setByte a v).mtvec = s.mtvec := rfl
@[simp] theorem State.setByte_scause (a : Word) (v : Byte) : (s.setByte a v).scause = s.scause := rfl
@[simp] theorem State.setByte_stval (a : Word) (v : Byte) : (s.setByte a v).stval = s.stval := rfl
@[simp] theorem State.setByte_sscratch (a : Word) (v : Byte) : (s.setByte a v).sscratch = s.sscratch := rfl
@[simp] theorem State.setByte_stvec (a : Word) (v : Byte) : (s.setByte a v).stvec = s.stvec := rfl
@[simp] theorem State.setByte_mie (a : Word) (v : Byte) : (s.setByte a v).mie = s.mie := rfl
@[simp] theorem State.setByte_mip (a : Word) (v : Byte) : (s.setByte a v).mip = s.mip := rfl
@[simp] theorem State.setByte_lines (a : Word) (v : Byte) : (s.setByte a v).lines = s.lines := rfl
@[simp] theorem State.setByte_mcounteren (a : Word) (v : Byte) : (s.setByte a v).mcounteren = s.mcounteren := rfl
@[simp] theorem State.setByte_scounteren (a : Word) (v : Byte) : (s.setByte a v).scounteren = s.scounteren := rfl
@[simp] theorem State.setByte_mcycle (a : Word) (v : Byte) : (s.setByte a v).mcycle = s.mcycle := rfl
@[simp] theorem State.setByte_minstret (a : Word) (v : Byte) : (s.setByte a v).minstret = s.minstret := rfl
@[simp] theorem State.setByte_mtime (a : Word) (v : Byte) : (s.setByte a v).mtime = s.mtime := rfl
@[simp] theorem State.setByte_reservation (a : Word) (v : Byte) : (s.setByte a v).reservation = if s.reserves a then none else s.reservation := rfl
@[simp] theorem State.setByte_mem (a : Word) (v : Byte) : (s.setByte a v).mem = Memory.write s.mem (s.norm a).toNat v := rfl
@[simp] theorem State.setByte_imem (a : Word) (v : Byte) : (s.setByte a v).imem = s.imem := rfl
@[simp] theorem State.setByte_drawIndex (a : Word) (v : Byte) : (s.setByte a v).drawIndex = s.drawIndex := rfl

/-! ### State.enterTrap -/

@[simp] theorem State.enterTrap_cfg (irq : Bool) (code : Nat) (v : Word) : (s.enterTrap irq code v).cfg = s.cfg := rfl
@[simp] theorem State.enterTrap_x (irq : Bool) (code : Nat) (v : Word) : (s.enterTrap irq code v).x = s.x := rfl
@[simp] theorem State.enterTrap_f (irq : Bool) (code : Nat) (v : Word) : (s.enterTrap irq code v).f = s.f := rfl
@[simp] theorem State.enterTrap_pc (irq : Bool) (code : Nat) (v : Word) : (s.enterTrap irq code v).pc = s.handler irq code := rfl
@[simp] theorem State.enterTrap_fflags (irq : Bool) (code : Nat) (v : Word) : (s.enterTrap irq code v).fflags = s.fflags := rfl
@[simp] theorem State.enterTrap_frm (irq : Bool) (code : Nat) (v : Word) : (s.enterTrap irq code v).frm = s.frm := rfl
@[simp] theorem State.enterTrap_priv (irq : Bool) (code : Nat) (v : Word) : (s.enterTrap irq code v).priv = .machine := rfl
@[simp] theorem State.enterTrap_mstatus (irq : Bool) (code : Nat) (v : Word) : (s.enterTrap irq code v).mstatus = { s.mstatus with mpp := s.priv, mpie := s.mstatus.mie, mie := false } := rfl
@[simp] theorem State.enterTrap_mepc (irq : Bool) (code : Nat) (v : Word) : (s.enterTrap irq code v).mepc = s.epcOf s.pc := rfl
@[simp] theorem State.enterTrap_sepc (irq : Bool) (code : Nat) (v : Word) : (s.enterTrap irq code v).sepc = s.sepc := rfl
@[simp] theorem State.enterTrap_mcause (irq : Bool) (code : Nat) (v : Word) : (s.enterTrap irq code v).mcause = s.causeWord irq code := rfl
@[simp] theorem State.enterTrap_mtval (irq : Bool) (code : Nat) (v : Word) : (s.enterTrap irq code v).mtval = s.norm v := rfl
@[simp] theorem State.enterTrap_mscratch (irq : Bool) (code : Nat) (v : Word) : (s.enterTrap irq code v).mscratch = s.mscratch := rfl
@[simp] theorem State.enterTrap_mtvec (irq : Bool) (code : Nat) (v : Word) : (s.enterTrap irq code v).mtvec = s.mtvec := rfl
@[simp] theorem State.enterTrap_scause (irq : Bool) (code : Nat) (v : Word) : (s.enterTrap irq code v).scause = s.scause := rfl
@[simp] theorem State.enterTrap_stval (irq : Bool) (code : Nat) (v : Word) : (s.enterTrap irq code v).stval = s.stval := rfl
@[simp] theorem State.enterTrap_sscratch (irq : Bool) (code : Nat) (v : Word) : (s.enterTrap irq code v).sscratch = s.sscratch := rfl
@[simp] theorem State.enterTrap_stvec (irq : Bool) (code : Nat) (v : Word) : (s.enterTrap irq code v).stvec = s.stvec := rfl
@[simp] theorem State.enterTrap_mie (irq : Bool) (code : Nat) (v : Word) : (s.enterTrap irq code v).mie = s.mie := rfl
@[simp] theorem State.enterTrap_mip (irq : Bool) (code : Nat) (v : Word) : (s.enterTrap irq code v).mip = s.mip := rfl
@[simp] theorem State.enterTrap_lines (irq : Bool) (code : Nat) (v : Word) : (s.enterTrap irq code v).lines = s.lines := rfl
@[simp] theorem State.enterTrap_mcounteren (irq : Bool) (code : Nat) (v : Word) : (s.enterTrap irq code v).mcounteren = s.mcounteren := rfl
@[simp] theorem State.enterTrap_scounteren (irq : Bool) (code : Nat) (v : Word) : (s.enterTrap irq code v).scounteren = s.scounteren := rfl
@[simp] theorem State.enterTrap_mcycle (irq : Bool) (code : Nat) (v : Word) : (s.enterTrap irq code v).mcycle = s.mcycle := rfl
@[simp] theorem State.enterTrap_minstret (irq : Bool) (code : Nat) (v : Word) : (s.enterTrap irq code v).minstret = s.minstret := rfl
@[simp] theorem State.enterTrap_mtime (irq : Bool) (code : Nat) (v : Word) : (s.enterTrap irq code v).mtime = s.mtime := rfl
@[simp] theorem State.enterTrap_reservation (irq : Bool) (code : Nat) (v : Word) : (s.enterTrap irq code v).reservation = none := rfl
@[simp] theorem State.enterTrap_mem (irq : Bool) (code : Nat) (v : Word) : (s.enterTrap irq code v).mem = s.mem := rfl
@[simp] theorem State.enterTrap_imem (irq : Bool) (code : Nat) (v : Word) : (s.enterTrap irq code v).imem = s.imem := rfl
@[simp] theorem State.enterTrap_drawIndex (irq : Bool) (code : Nat) (v : Word) : (s.enterTrap irq code v).drawIndex = s.drawIndex := rfl

/-! ### State.returnM -/

@[simp] theorem State.returnM_cfg : (s.returnM).cfg = s.cfg := rfl
@[simp] theorem State.returnM_x : (s.returnM).x = s.x := rfl
@[simp] theorem State.returnM_f : (s.returnM).f = s.f := rfl
@[simp] theorem State.returnM_pc : (s.returnM).pc = s.epcOf s.mepc := rfl
@[simp] theorem State.returnM_fflags : (s.returnM).fflags = s.fflags := rfl
@[simp] theorem State.returnM_frm : (s.returnM).frm = s.frm := rfl
@[simp] theorem State.returnM_priv : (s.returnM).priv = s.mstatus.mpp := rfl
@[simp] theorem State.returnM_mstatus : (s.returnM).mstatus = { s.mstatus with mie := s.mstatus.mpie, mpie := true, mpp := s.mppAfterReturn } := rfl
@[simp] theorem State.returnM_mepc : (s.returnM).mepc = s.mepc := rfl
@[simp] theorem State.returnM_sepc : (s.returnM).sepc = s.sepc := rfl
@[simp] theorem State.returnM_mcause : (s.returnM).mcause = s.mcause := rfl
@[simp] theorem State.returnM_mtval : (s.returnM).mtval = s.mtval := rfl
@[simp] theorem State.returnM_mscratch : (s.returnM).mscratch = s.mscratch := rfl
@[simp] theorem State.returnM_mtvec : (s.returnM).mtvec = s.mtvec := rfl
@[simp] theorem State.returnM_scause : (s.returnM).scause = s.scause := rfl
@[simp] theorem State.returnM_stval : (s.returnM).stval = s.stval := rfl
@[simp] theorem State.returnM_sscratch : (s.returnM).sscratch = s.sscratch := rfl
@[simp] theorem State.returnM_stvec : (s.returnM).stvec = s.stvec := rfl
@[simp] theorem State.returnM_mie : (s.returnM).mie = s.mie := rfl
@[simp] theorem State.returnM_mip : (s.returnM).mip = s.mip := rfl
@[simp] theorem State.returnM_lines : (s.returnM).lines = s.lines := rfl
@[simp] theorem State.returnM_mcounteren : (s.returnM).mcounteren = s.mcounteren := rfl
@[simp] theorem State.returnM_scounteren : (s.returnM).scounteren = s.scounteren := rfl
@[simp] theorem State.returnM_mcycle : (s.returnM).mcycle = s.mcycle := rfl
@[simp] theorem State.returnM_minstret : (s.returnM).minstret = s.minstret := rfl
@[simp] theorem State.returnM_mtime : (s.returnM).mtime = s.mtime := rfl
@[simp] theorem State.returnM_reservation : (s.returnM).reservation = none := rfl
@[simp] theorem State.returnM_mem : (s.returnM).mem = s.mem := rfl
@[simp] theorem State.returnM_imem : (s.returnM).imem = s.imem := rfl
@[simp] theorem State.returnM_drawIndex : (s.returnM).drawIndex = s.drawIndex := rfl

/-! ### State.returnS -/

@[simp] theorem State.returnS_cfg : (s.returnS).cfg = s.cfg := rfl
@[simp] theorem State.returnS_x : (s.returnS).x = s.x := rfl
@[simp] theorem State.returnS_f : (s.returnS).f = s.f := rfl
@[simp] theorem State.returnS_pc : (s.returnS).pc = s.epcOf s.sepc := rfl
@[simp] theorem State.returnS_fflags : (s.returnS).fflags = s.fflags := rfl
@[simp] theorem State.returnS_frm : (s.returnS).frm = s.frm := rfl
@[simp] theorem State.returnS_priv : (s.returnS).priv = if s.mstatus.spp then .supervisor else .user := rfl
@[simp] theorem State.returnS_mstatus : (s.returnS).mstatus = { s.mstatus with sie := s.mstatus.spie, spie := true, spp := false } := rfl
@[simp] theorem State.returnS_mepc : (s.returnS).mepc = s.mepc := rfl
@[simp] theorem State.returnS_sepc : (s.returnS).sepc = s.sepc := rfl
@[simp] theorem State.returnS_mcause : (s.returnS).mcause = s.mcause := rfl
@[simp] theorem State.returnS_mtval : (s.returnS).mtval = s.mtval := rfl
@[simp] theorem State.returnS_mscratch : (s.returnS).mscratch = s.mscratch := rfl
@[simp] theorem State.returnS_mtvec : (s.returnS).mtvec = s.mtvec := rfl
@[simp] theorem State.returnS_scause : (s.returnS).scause = s.scause := rfl
@[simp] theorem State.returnS_stval : (s.returnS).stval = s.stval := rfl
@[simp] theorem State.returnS_sscratch : (s.returnS).sscratch = s.sscratch := rfl
@[simp] theorem State.returnS_stvec : (s.returnS).stvec = s.stvec := rfl
@[simp] theorem State.returnS_mie : (s.returnS).mie = s.mie := rfl
@[simp] theorem State.returnS_mip : (s.returnS).mip = s.mip := rfl
@[simp] theorem State.returnS_lines : (s.returnS).lines = s.lines := rfl
@[simp] theorem State.returnS_mcounteren : (s.returnS).mcounteren = s.mcounteren := rfl
@[simp] theorem State.returnS_scounteren : (s.returnS).scounteren = s.scounteren := rfl
@[simp] theorem State.returnS_mcycle : (s.returnS).mcycle = s.mcycle := rfl
@[simp] theorem State.returnS_minstret : (s.returnS).minstret = s.minstret := rfl
@[simp] theorem State.returnS_mtime : (s.returnS).mtime = s.mtime := rfl
@[simp] theorem State.returnS_reservation : (s.returnS).reservation = none := rfl
@[simp] theorem State.returnS_mem : (s.returnS).mem = s.mem := rfl
@[simp] theorem State.returnS_imem : (s.returnS).imem = s.imem := rfl
@[simp] theorem State.returnS_drawIndex : (s.returnS).drawIndex = s.drawIndex := rfl

/-! ### State.tick -/

@[simp] theorem State.tick_cfg : (s.tick).cfg = s.cfg := rfl
@[simp] theorem State.tick_x : (s.tick).x = s.x := rfl
@[simp] theorem State.tick_f : (s.tick).f = s.f := rfl
@[simp] theorem State.tick_pc : (s.tick).pc = s.pc := rfl
@[simp] theorem State.tick_fflags : (s.tick).fflags = s.fflags := rfl
@[simp] theorem State.tick_frm : (s.tick).frm = s.frm := rfl
@[simp] theorem State.tick_priv : (s.tick).priv = s.priv := rfl
@[simp] theorem State.tick_mstatus : (s.tick).mstatus = s.mstatus := rfl
@[simp] theorem State.tick_mepc : (s.tick).mepc = s.mepc := rfl
@[simp] theorem State.tick_sepc : (s.tick).sepc = s.sepc := rfl
@[simp] theorem State.tick_mcause : (s.tick).mcause = s.mcause := rfl
@[simp] theorem State.tick_mtval : (s.tick).mtval = s.mtval := rfl
@[simp] theorem State.tick_mscratch : (s.tick).mscratch = s.mscratch := rfl
@[simp] theorem State.tick_mtvec : (s.tick).mtvec = s.mtvec := rfl
@[simp] theorem State.tick_scause : (s.tick).scause = s.scause := rfl
@[simp] theorem State.tick_stval : (s.tick).stval = s.stval := rfl
@[simp] theorem State.tick_sscratch : (s.tick).sscratch = s.sscratch := rfl
@[simp] theorem State.tick_stvec : (s.tick).stvec = s.stvec := rfl
@[simp] theorem State.tick_mie : (s.tick).mie = s.mie := rfl
@[simp] theorem State.tick_mip : (s.tick).mip = s.mip := rfl
@[simp] theorem State.tick_lines : (s.tick).lines = s.lines := rfl
@[simp] theorem State.tick_mcounteren : (s.tick).mcounteren = s.mcounteren := rfl
@[simp] theorem State.tick_scounteren : (s.tick).scounteren = s.scounteren := rfl
@[simp] theorem State.tick_mcycle : (s.tick).mcycle = s.mcycle + s.cycles := rfl
@[simp] theorem State.tick_minstret : (s.tick).minstret = s.minstret := rfl
@[simp] theorem State.tick_mtime : (s.tick).mtime = s.mtime + s.cycles := rfl
@[simp] theorem State.tick_reservation : (s.tick).reservation = s.reservation := rfl
@[simp] theorem State.tick_mem : (s.tick).mem = s.mem := rfl
@[simp] theorem State.tick_imem : (s.tick).imem = s.imem := rfl
@[simp] theorem State.tick_drawIndex : (s.tick).drawIndex = s.drawIndex + 1 := rfl

/-! ### State.sampleLines -/

@[simp] theorem State.sampleLines_cfg : (s.sampleLines).cfg = s.cfg := by unfold State.sampleLines; split <;> rfl
@[simp] theorem State.sampleLines_x : (s.sampleLines).x = s.x := by unfold State.sampleLines; split <;> rfl
@[simp] theorem State.sampleLines_f : (s.sampleLines).f = s.f := by unfold State.sampleLines; split <;> rfl
@[simp] theorem State.sampleLines_pc : (s.sampleLines).pc = s.pc := by unfold State.sampleLines; split <;> rfl
@[simp] theorem State.sampleLines_fflags : (s.sampleLines).fflags = s.fflags := by unfold State.sampleLines; split <;> rfl
@[simp] theorem State.sampleLines_frm : (s.sampleLines).frm = s.frm := by unfold State.sampleLines; split <;> rfl
@[simp] theorem State.sampleLines_priv : (s.sampleLines).priv = s.priv := by unfold State.sampleLines; split <;> rfl
@[simp] theorem State.sampleLines_mstatus : (s.sampleLines).mstatus = s.mstatus := by unfold State.sampleLines; split <;> rfl
@[simp] theorem State.sampleLines_mepc : (s.sampleLines).mepc = s.mepc := by unfold State.sampleLines; split <;> rfl
@[simp] theorem State.sampleLines_sepc : (s.sampleLines).sepc = s.sepc := by unfold State.sampleLines; split <;> rfl
@[simp] theorem State.sampleLines_mcause : (s.sampleLines).mcause = s.mcause := by unfold State.sampleLines; split <;> rfl
@[simp] theorem State.sampleLines_mtval : (s.sampleLines).mtval = s.mtval := by unfold State.sampleLines; split <;> rfl
@[simp] theorem State.sampleLines_mscratch : (s.sampleLines).mscratch = s.mscratch := by unfold State.sampleLines; split <;> rfl
@[simp] theorem State.sampleLines_mtvec : (s.sampleLines).mtvec = s.mtvec := by unfold State.sampleLines; split <;> rfl
@[simp] theorem State.sampleLines_scause : (s.sampleLines).scause = s.scause := by unfold State.sampleLines; split <;> rfl
@[simp] theorem State.sampleLines_stval : (s.sampleLines).stval = s.stval := by unfold State.sampleLines; split <;> rfl
@[simp] theorem State.sampleLines_sscratch : (s.sampleLines).sscratch = s.sscratch := by unfold State.sampleLines; split <;> rfl
@[simp] theorem State.sampleLines_stvec : (s.sampleLines).stvec = s.stvec := by unfold State.sampleLines; split <;> rfl
@[simp] theorem State.sampleLines_mie : (s.sampleLines).mie = s.mie := by unfold State.sampleLines; split <;> rfl
@[simp] theorem State.sampleLines_mip : (s.sampleLines).mip = s.mip := by unfold State.sampleLines; split <;> rfl
@[simp] theorem State.sampleLines_mcounteren : (s.sampleLines).mcounteren = s.mcounteren := by unfold State.sampleLines; split <;> rfl
@[simp] theorem State.sampleLines_scounteren : (s.sampleLines).scounteren = s.scounteren := by unfold State.sampleLines; split <;> rfl
@[simp] theorem State.sampleLines_mcycle : (s.sampleLines).mcycle = s.mcycle := by unfold State.sampleLines; split <;> rfl
@[simp] theorem State.sampleLines_minstret : (s.sampleLines).minstret = s.minstret := by unfold State.sampleLines; split <;> rfl
@[simp] theorem State.sampleLines_mtime : (s.sampleLines).mtime = s.mtime := by unfold State.sampleLines; split <;> rfl
@[simp] theorem State.sampleLines_reservation : (s.sampleLines).reservation = s.reservation := by unfold State.sampleLines; split <;> rfl
@[simp] theorem State.sampleLines_mem : (s.sampleLines).mem = s.mem := by unfold State.sampleLines; split <;> rfl
@[simp] theorem State.sampleLines_imem : (s.sampleLines).imem = s.imem := by unfold State.sampleLines; split <;> rfl
@[simp] theorem State.sampleLines_drawIndex : (s.sampleLines).drawIndex = s.drawIndex := by unfold State.sampleLines; split <;> rfl

/-! ### The accessors depend on the configuration, and on the field they read -/

theorem State.norm_congr {s t : State} (h : s.cfg = t.cfg) (w : Word) : s.norm w = t.norm w := by
  simp only [State.norm, h]

theorem State.checkByte_congr {s t : State} (h : s.cfg = t.cfg) (k : Access) (a : Word) :
    s.checkByte k a = t.checkByte k a := by
  simp only [State.checkByte, State.norm, h]

theorem State.check_congr {s t : State} (h : s.cfg = t.cfg) (k : Access) (a : Word) (n : Nat) :
    s.check k a n = t.check k a n := by
  induction n generalizing a with
  | zero => rfl
  | succ n ih => simp only [State.check, State.checkByte_congr h, ih]

theorem State.byte_congr {s t : State} (h : s.cfg = t.cfg) (hm : s.mem = t.mem) (a : Word) : s.byte a = t.byte a := by
  simp only [State.byte, State.norm, h, hm]

theorem State.readBytes_congr {s t : State} (h : s.cfg = t.cfg) (hm : s.mem = t.mem) (a : Word) (n : Nat) :
    s.readBytes a n = t.readBytes a n := by
  induction n generalizing a with
  | zero => rfl
  | succ n ih => simp only [State.readBytes, State.byte_congr h hm, ih]

/-! ### The accessors, after an update of other fields -/

@[simp] theorem State.norm_advance (len : Word) (w : Word) : (s.advance len).norm w = s.norm w := rfl
@[simp] theorem State.getX_advance (len : Word) (r : Reg) : (s.advance len).getX r = s.getX r := rfl
@[simp] theorem State.getF_advance (len : Word) (r : FReg) : (s.advance len).getF r = s.getF r := rfl
@[simp] theorem State.getS_advance (len : Word) (r : FReg) : (s.advance len).getS r = s.getS r := rfl
@[simp] theorem State.byte_advance (len : Word) (b : Word) : (s.advance len).byte b = s.byte b := rfl
@[simp] theorem State.check_advance (len : Word) (k : Access) (b : Word) (n : Nat) : (s.advance len).check k b n = s.check k b n := State.check_congr (by simp) _ _ _
@[simp] theorem State.checkByte_advance (len : Word) (k : Access) (b : Word) : (s.advance len).checkByte k b = s.checkByte k b := rfl
@[simp] theorem State.readBytes_advance (len : Word) (b : Word) (n : Nat) : (s.advance len).readBytes b n = s.readBytes b n := State.readBytes_congr (by simp) (by simp) _ _
@[simp] theorem State.epcOf_advance (len : Word) (w : Word) : (s.advance len).epcOf w = s.epcOf w := rfl
@[simp] theorem State.badTarget_advance (len : Word) (w : Word) : (s.advance len).badTarget w = s.badTarget w := rfl
@[simp] theorem State.fits_advance (len : Word) (w : Word) : (s.advance len).fits w = s.fits w := rfl
@[simp] theorem State.norm_retire (w : Word) : (s.retire).norm w = s.norm w := rfl
@[simp] theorem State.getX_retire (r : Reg) : (s.retire).getX r = s.getX r := rfl
@[simp] theorem State.getF_retire (r : FReg) : (s.retire).getF r = s.getF r := rfl
@[simp] theorem State.getS_retire (r : FReg) : (s.retire).getS r = s.getS r := rfl
@[simp] theorem State.byte_retire (b : Word) : (s.retire).byte b = s.byte b := rfl
@[simp] theorem State.check_retire (k : Access) (b : Word) (n : Nat) : (s.retire).check k b n = s.check k b n := State.check_congr (by simp) _ _ _
@[simp] theorem State.checkByte_retire (k : Access) (b : Word) : (s.retire).checkByte k b = s.checkByte k b := rfl
@[simp] theorem State.readBytes_retire (b : Word) (n : Nat) : (s.retire).readBytes b n = s.readBytes b n := State.readBytes_congr (by simp) (by simp) _ _
@[simp] theorem State.epcOf_retire (w : Word) : (s.retire).epcOf w = s.epcOf w := rfl
@[simp] theorem State.badTarget_retire (w : Word) : (s.retire).badTarget w = s.badTarget w := rfl
@[simp] theorem State.fits_retire (w : Word) : (s.retire).fits w = s.fits w := rfl
@[simp] theorem State.norm_dirty (w : Word) : (s.dirty).norm w = s.norm w := rfl
@[simp] theorem State.getX_dirty (r : Reg) : (s.dirty).getX r = s.getX r := rfl
@[simp] theorem State.getF_dirty (r : FReg) : (s.dirty).getF r = s.getF r := rfl
@[simp] theorem State.getS_dirty (r : FReg) : (s.dirty).getS r = s.getS r := rfl
@[simp] theorem State.byte_dirty (b : Word) : (s.dirty).byte b = s.byte b := rfl
@[simp] theorem State.check_dirty (k : Access) (b : Word) (n : Nat) : (s.dirty).check k b n = s.check k b n := State.check_congr (by simp) _ _ _
@[simp] theorem State.checkByte_dirty (k : Access) (b : Word) : (s.dirty).checkByte k b = s.checkByte k b := rfl
@[simp] theorem State.readBytes_dirty (b : Word) (n : Nat) : (s.dirty).readBytes b n = s.readBytes b n := State.readBytes_congr (by simp) (by simp) _ _
@[simp] theorem State.epcOf_dirty (w : Word) : (s.dirty).epcOf w = s.epcOf w := rfl
@[simp] theorem State.badTarget_dirty (w : Word) : (s.dirty).badTarget w = s.badTarget w := rfl
@[simp] theorem State.fits_dirty (w : Word) : (s.dirty).fits w = s.fits w := rfl
@[simp] theorem State.norm_accrue (fl : BitVec 5) (w : Word) : (s.accrue fl).norm w = s.norm w := rfl
@[simp] theorem State.getX_accrue (fl : BitVec 5) (r : Reg) : (s.accrue fl).getX r = s.getX r := rfl
@[simp] theorem State.getF_accrue (fl : BitVec 5) (r : FReg) : (s.accrue fl).getF r = s.getF r := rfl
@[simp] theorem State.getS_accrue (fl : BitVec 5) (r : FReg) : (s.accrue fl).getS r = s.getS r := rfl
@[simp] theorem State.byte_accrue (fl : BitVec 5) (b : Word) : (s.accrue fl).byte b = s.byte b := rfl
@[simp] theorem State.check_accrue (fl : BitVec 5) (k : Access) (b : Word) (n : Nat) : (s.accrue fl).check k b n = s.check k b n := State.check_congr (by simp) _ _ _
@[simp] theorem State.checkByte_accrue (fl : BitVec 5) (k : Access) (b : Word) : (s.accrue fl).checkByte k b = s.checkByte k b := rfl
@[simp] theorem State.readBytes_accrue (fl : BitVec 5) (b : Word) (n : Nat) : (s.accrue fl).readBytes b n = s.readBytes b n := State.readBytes_congr (by simp) (by simp) _ _
@[simp] theorem State.epcOf_accrue (fl : BitVec 5) (w : Word) : (s.accrue fl).epcOf w = s.epcOf w := rfl
@[simp] theorem State.badTarget_accrue (fl : BitVec 5) (w : Word) : (s.accrue fl).badTarget w = s.badTarget w := rfl
@[simp] theorem State.fits_accrue (fl : BitVec 5) (w : Word) : (s.accrue fl).fits w = s.fits w := rfl
@[simp] theorem State.norm_setX (i : Reg) (v : Word) (w : Word) : (s.setX i v).norm w = s.norm w := by unfold State.setX; split <;> rfl
@[simp] theorem State.getF_setX (i : Reg) (v : Word) (r : FReg) : (s.setX i v).getF r = s.getF r := by unfold State.setX; split <;> rfl
@[simp] theorem State.getS_setX (i : Reg) (v : Word) (r : FReg) : (s.setX i v).getS r = s.getS r := by unfold State.setX; split <;> rfl
@[simp] theorem State.byte_setX (i : Reg) (v : Word) (b : Word) : (s.setX i v).byte b = s.byte b := by unfold State.setX; split <;> rfl
@[simp] theorem State.check_setX (i : Reg) (v : Word) (k : Access) (b : Word) (n : Nat) : (s.setX i v).check k b n = s.check k b n := State.check_congr (by simp) _ _ _
@[simp] theorem State.checkByte_setX (i : Reg) (v : Word) (k : Access) (b : Word) : (s.setX i v).checkByte k b = s.checkByte k b := by unfold State.setX; split <;> rfl
@[simp] theorem State.readBytes_setX (i : Reg) (v : Word) (b : Word) (n : Nat) : (s.setX i v).readBytes b n = s.readBytes b n := State.readBytes_congr (by simp) (by simp) _ _
@[simp] theorem State.epcOf_setX (i : Reg) (v : Word) (w : Word) : (s.setX i v).epcOf w = s.epcOf w := by unfold State.setX; split <;> rfl
@[simp] theorem State.badTarget_setX (i : Reg) (v : Word) (w : Word) : (s.setX i v).badTarget w = s.badTarget w := by unfold State.setX; split <;> rfl
@[simp] theorem State.fits_setX (i : Reg) (v : Word) (w : Word) : (s.setX i v).fits w = s.fits w := by unfold State.setX; split <;> rfl
@[simp] theorem State.norm_setF (i : FReg) (v : Word) (w : Word) : (s.setF i v).norm w = s.norm w := rfl
@[simp] theorem State.getX_setF (i : FReg) (v : Word) (r : Reg) : (s.setF i v).getX r = s.getX r := rfl
@[simp] theorem State.byte_setF (i : FReg) (v : Word) (b : Word) : (s.setF i v).byte b = s.byte b := rfl
@[simp] theorem State.check_setF (i : FReg) (v : Word) (k : Access) (b : Word) (n : Nat) : (s.setF i v).check k b n = s.check k b n := State.check_congr (by simp) _ _ _
@[simp] theorem State.checkByte_setF (i : FReg) (v : Word) (k : Access) (b : Word) : (s.setF i v).checkByte k b = s.checkByte k b := rfl
@[simp] theorem State.readBytes_setF (i : FReg) (v : Word) (b : Word) (n : Nat) : (s.setF i v).readBytes b n = s.readBytes b n := State.readBytes_congr (by simp) (by simp) _ _
@[simp] theorem State.epcOf_setF (i : FReg) (v : Word) (w : Word) : (s.setF i v).epcOf w = s.epcOf w := rfl
@[simp] theorem State.badTarget_setF (i : FReg) (v : Word) (w : Word) : (s.setF i v).badTarget w = s.badTarget w := rfl
@[simp] theorem State.fits_setF (i : FReg) (v : Word) (w : Word) : (s.setF i v).fits w = s.fits w := rfl
@[simp] theorem State.norm_setS (i : FReg) (v : BitVec 32) (w : Word) : (s.setS i v).norm w = s.norm w := rfl
@[simp] theorem State.getX_setS (i : FReg) (v : BitVec 32) (r : Reg) : (s.setS i v).getX r = s.getX r := rfl
@[simp] theorem State.byte_setS (i : FReg) (v : BitVec 32) (b : Word) : (s.setS i v).byte b = s.byte b := rfl
@[simp] theorem State.check_setS (i : FReg) (v : BitVec 32) (k : Access) (b : Word) (n : Nat) : (s.setS i v).check k b n = s.check k b n := State.check_congr (by simp) _ _ _
@[simp] theorem State.checkByte_setS (i : FReg) (v : BitVec 32) (k : Access) (b : Word) : (s.setS i v).checkByte k b = s.checkByte k b := rfl
@[simp] theorem State.readBytes_setS (i : FReg) (v : BitVec 32) (b : Word) (n : Nat) : (s.setS i v).readBytes b n = s.readBytes b n := State.readBytes_congr (by simp) (by simp) _ _
@[simp] theorem State.epcOf_setS (i : FReg) (v : BitVec 32) (w : Word) : (s.setS i v).epcOf w = s.epcOf w := rfl
@[simp] theorem State.badTarget_setS (i : FReg) (v : BitVec 32) (w : Word) : (s.setS i v).badTarget w = s.badTarget w := rfl
@[simp] theorem State.fits_setS (i : FReg) (v : BitVec 32) (w : Word) : (s.setS i v).fits w = s.fits w := rfl
@[simp] theorem State.norm_setByte (a : Word) (v : Byte) (w : Word) : (s.setByte a v).norm w = s.norm w := rfl
@[simp] theorem State.getX_setByte (a : Word) (v : Byte) (r : Reg) : (s.setByte a v).getX r = s.getX r := rfl
@[simp] theorem State.getF_setByte (a : Word) (v : Byte) (r : FReg) : (s.setByte a v).getF r = s.getF r := rfl
@[simp] theorem State.getS_setByte (a : Word) (v : Byte) (r : FReg) : (s.setByte a v).getS r = s.getS r := rfl
@[simp] theorem State.check_setByte (a : Word) (v : Byte) (k : Access) (b : Word) (n : Nat) : (s.setByte a v).check k b n = s.check k b n := State.check_congr (by simp) _ _ _
@[simp] theorem State.checkByte_setByte (a : Word) (v : Byte) (k : Access) (b : Word) : (s.setByte a v).checkByte k b = s.checkByte k b := rfl
@[simp] theorem State.epcOf_setByte (a : Word) (v : Byte) (w : Word) : (s.setByte a v).epcOf w = s.epcOf w := rfl
@[simp] theorem State.badTarget_setByte (a : Word) (v : Byte) (w : Word) : (s.setByte a v).badTarget w = s.badTarget w := rfl
@[simp] theorem State.fits_setByte (a : Word) (v : Byte) (w : Word) : (s.setByte a v).fits w = s.fits w := rfl
@[simp] theorem State.norm_enterTrap (irq : Bool) (code : Nat) (v : Word) (w : Word) : (s.enterTrap irq code v).norm w = s.norm w := rfl
@[simp] theorem State.getX_enterTrap (irq : Bool) (code : Nat) (v : Word) (r : Reg) : (s.enterTrap irq code v).getX r = s.getX r := rfl
@[simp] theorem State.getF_enterTrap (irq : Bool) (code : Nat) (v : Word) (r : FReg) : (s.enterTrap irq code v).getF r = s.getF r := rfl
@[simp] theorem State.getS_enterTrap (irq : Bool) (code : Nat) (v : Word) (r : FReg) : (s.enterTrap irq code v).getS r = s.getS r := rfl
@[simp] theorem State.byte_enterTrap (irq : Bool) (code : Nat) (v : Word) (b : Word) : (s.enterTrap irq code v).byte b = s.byte b := rfl
@[simp] theorem State.check_enterTrap (irq : Bool) (code : Nat) (v : Word) (k : Access) (b : Word) (n : Nat) : (s.enterTrap irq code v).check k b n = s.check k b n := State.check_congr (by simp) _ _ _
@[simp] theorem State.checkByte_enterTrap (irq : Bool) (code : Nat) (v : Word) (k : Access) (b : Word) : (s.enterTrap irq code v).checkByte k b = s.checkByte k b := rfl
@[simp] theorem State.readBytes_enterTrap (irq : Bool) (code : Nat) (v : Word) (b : Word) (n : Nat) : (s.enterTrap irq code v).readBytes b n = s.readBytes b n := State.readBytes_congr (by simp) (by simp) _ _
@[simp] theorem State.epcOf_enterTrap (irq : Bool) (code : Nat) (v : Word) (w : Word) : (s.enterTrap irq code v).epcOf w = s.epcOf w := rfl
@[simp] theorem State.badTarget_enterTrap (irq : Bool) (code : Nat) (v : Word) (w : Word) : (s.enterTrap irq code v).badTarget w = s.badTarget w := rfl
@[simp] theorem State.fits_enterTrap (irq : Bool) (code : Nat) (v : Word) (w : Word) : (s.enterTrap irq code v).fits w = s.fits w := rfl
@[simp] theorem State.norm_returnM (w : Word) : (s.returnM).norm w = s.norm w := rfl
@[simp] theorem State.getX_returnM (r : Reg) : (s.returnM).getX r = s.getX r := rfl
@[simp] theorem State.getF_returnM (r : FReg) : (s.returnM).getF r = s.getF r := rfl
@[simp] theorem State.getS_returnM (r : FReg) : (s.returnM).getS r = s.getS r := rfl
@[simp] theorem State.byte_returnM (b : Word) : (s.returnM).byte b = s.byte b := rfl
@[simp] theorem State.check_returnM (k : Access) (b : Word) (n : Nat) : (s.returnM).check k b n = s.check k b n := State.check_congr (by simp) _ _ _
@[simp] theorem State.checkByte_returnM (k : Access) (b : Word) : (s.returnM).checkByte k b = s.checkByte k b := rfl
@[simp] theorem State.readBytes_returnM (b : Word) (n : Nat) : (s.returnM).readBytes b n = s.readBytes b n := State.readBytes_congr (by simp) (by simp) _ _
@[simp] theorem State.epcOf_returnM (w : Word) : (s.returnM).epcOf w = s.epcOf w := rfl
@[simp] theorem State.badTarget_returnM (w : Word) : (s.returnM).badTarget w = s.badTarget w := rfl
@[simp] theorem State.fits_returnM (w : Word) : (s.returnM).fits w = s.fits w := rfl
@[simp] theorem State.norm_returnS (w : Word) : (s.returnS).norm w = s.norm w := rfl
@[simp] theorem State.getX_returnS (r : Reg) : (s.returnS).getX r = s.getX r := rfl
@[simp] theorem State.getF_returnS (r : FReg) : (s.returnS).getF r = s.getF r := rfl
@[simp] theorem State.getS_returnS (r : FReg) : (s.returnS).getS r = s.getS r := rfl
@[simp] theorem State.byte_returnS (b : Word) : (s.returnS).byte b = s.byte b := rfl
@[simp] theorem State.check_returnS (k : Access) (b : Word) (n : Nat) : (s.returnS).check k b n = s.check k b n := State.check_congr (by simp) _ _ _
@[simp] theorem State.checkByte_returnS (k : Access) (b : Word) : (s.returnS).checkByte k b = s.checkByte k b := rfl
@[simp] theorem State.readBytes_returnS (b : Word) (n : Nat) : (s.returnS).readBytes b n = s.readBytes b n := State.readBytes_congr (by simp) (by simp) _ _
@[simp] theorem State.epcOf_returnS (w : Word) : (s.returnS).epcOf w = s.epcOf w := rfl
@[simp] theorem State.badTarget_returnS (w : Word) : (s.returnS).badTarget w = s.badTarget w := rfl
@[simp] theorem State.fits_returnS (w : Word) : (s.returnS).fits w = s.fits w := rfl
@[simp] theorem State.norm_tick (w : Word) : (s.tick).norm w = s.norm w := rfl
@[simp] theorem State.getX_tick (r : Reg) : (s.tick).getX r = s.getX r := rfl
@[simp] theorem State.getF_tick (r : FReg) : (s.tick).getF r = s.getF r := rfl
@[simp] theorem State.getS_tick (r : FReg) : (s.tick).getS r = s.getS r := rfl
@[simp] theorem State.byte_tick (b : Word) : (s.tick).byte b = s.byte b := rfl
@[simp] theorem State.check_tick (k : Access) (b : Word) (n : Nat) : (s.tick).check k b n = s.check k b n := State.check_congr (by simp) _ _ _
@[simp] theorem State.checkByte_tick (k : Access) (b : Word) : (s.tick).checkByte k b = s.checkByte k b := rfl
@[simp] theorem State.readBytes_tick (b : Word) (n : Nat) : (s.tick).readBytes b n = s.readBytes b n := State.readBytes_congr (by simp) (by simp) _ _
@[simp] theorem State.epcOf_tick (w : Word) : (s.tick).epcOf w = s.epcOf w := rfl
@[simp] theorem State.badTarget_tick (w : Word) : (s.tick).badTarget w = s.badTarget w := rfl
@[simp] theorem State.fits_tick (w : Word) : (s.tick).fits w = s.fits w := rfl
@[simp] theorem State.norm_sampleLines (w : Word) : (s.sampleLines).norm w = s.norm w := by unfold State.sampleLines; split <;> rfl
@[simp] theorem State.getX_sampleLines (r : Reg) : (s.sampleLines).getX r = s.getX r := by unfold State.sampleLines; split <;> rfl
@[simp] theorem State.getF_sampleLines (r : FReg) : (s.sampleLines).getF r = s.getF r := by unfold State.sampleLines; split <;> rfl
@[simp] theorem State.getS_sampleLines (r : FReg) : (s.sampleLines).getS r = s.getS r := by unfold State.sampleLines; split <;> rfl
@[simp] theorem State.byte_sampleLines (b : Word) : (s.sampleLines).byte b = s.byte b := by unfold State.sampleLines; split <;> rfl
@[simp] theorem State.check_sampleLines (k : Access) (b : Word) (n : Nat) : (s.sampleLines).check k b n = s.check k b n := State.check_congr (by simp) _ _ _
@[simp] theorem State.checkByte_sampleLines (k : Access) (b : Word) : (s.sampleLines).checkByte k b = s.checkByte k b := by unfold State.sampleLines; split <;> rfl
@[simp] theorem State.readBytes_sampleLines (b : Word) (n : Nat) : (s.sampleLines).readBytes b n = s.readBytes b n := State.readBytes_congr (by simp) (by simp) _ _
@[simp] theorem State.epcOf_sampleLines (w : Word) : (s.sampleLines).epcOf w = s.epcOf w := by unfold State.sampleLines; split <;> rfl
@[simp] theorem State.badTarget_sampleLines (w : Word) : (s.sampleLines).badTarget w = s.badTarget w := by unfold State.sampleLines; split <;> rfl
@[simp] theorem State.fits_sampleLines (w : Word) : (s.sampleLines).fits w = s.fits w := by unfold State.sampleLines; split <;> rfl

/-! ### State.resetOf -/

@[simp] theorem State.resetOf_cfg (p : Params) : (State.resetOf p).cfg = p := rfl
@[simp] theorem State.resetOf_x (p : Params) : (State.resetOf p).x = Vector.replicate 32 0 := rfl
@[simp] theorem State.resetOf_f (p : Params) : (State.resetOf p).f = Vector.replicate 32 0 := rfl
@[simp] theorem State.resetOf_pc (p : Params) : (State.resetOf p).pc = p.resetPc := rfl
@[simp] theorem State.resetOf_fflags (p : Params) : (State.resetOf p).fflags = 0 := rfl
@[simp] theorem State.resetOf_frm (p : Params) : (State.resetOf p).frm = 0 := rfl
@[simp] theorem State.resetOf_priv (p : Params) : (State.resetOf p).priv = .machine := rfl
@[simp] theorem State.resetOf_mepc (p : Params) : (State.resetOf p).mepc = 0 := rfl
@[simp] theorem State.resetOf_sepc (p : Params) : (State.resetOf p).sepc = 0 := rfl
@[simp] theorem State.resetOf_mcause (p : Params) : (State.resetOf p).mcause = 0 := rfl
@[simp] theorem State.resetOf_mtval (p : Params) : (State.resetOf p).mtval = 0 := rfl
@[simp] theorem State.resetOf_mscratch (p : Params) : (State.resetOf p).mscratch = 0 := rfl
@[simp] theorem State.resetOf_mtvec (p : Params) : (State.resetOf p).mtvec = 0 := rfl
@[simp] theorem State.resetOf_scause (p : Params) : (State.resetOf p).scause = 0 := rfl
@[simp] theorem State.resetOf_stval (p : Params) : (State.resetOf p).stval = 0 := rfl
@[simp] theorem State.resetOf_sscratch (p : Params) : (State.resetOf p).sscratch = 0 := rfl
@[simp] theorem State.resetOf_stvec (p : Params) : (State.resetOf p).stvec = 0 := rfl
@[simp] theorem State.resetOf_mstatus (p : Params) : (State.resetOf p).mstatus =
    ⟨false, false, false, false, false, if p.hasU then .user else .machine, 0, false, false, false⟩ := rfl
@[simp] theorem State.resetOf_mie (p : Params) : (State.resetOf p).mie = ⟨false, false, false, false, false, false⟩ := rfl
@[simp] theorem State.resetOf_mip (p : Params) : (State.resetOf p).mip = ⟨false, false, false⟩ := rfl
@[simp] theorem State.resetOf_lines (p : Params) : (State.resetOf p).lines = ⟨false, false, false⟩ := rfl
@[simp] theorem State.resetOf_mcounteren (p : Params) : (State.resetOf p).mcounteren = 0 := rfl
@[simp] theorem State.resetOf_scounteren (p : Params) : (State.resetOf p).scounteren = 0 := rfl
@[simp] theorem State.resetOf_mcycle (p : Params) : (State.resetOf p).mcycle = 0 := rfl
@[simp] theorem State.resetOf_minstret (p : Params) : (State.resetOf p).minstret = 0 := rfl
@[simp] theorem State.resetOf_mtime (p : Params) : (State.resetOf p).mtime = 0 := rfl
@[simp] theorem State.resetOf_reservation (p : Params) : (State.resetOf p).reservation = none := rfl
@[simp] theorem State.resetOf_mem (p : Params) : (State.resetOf p).mem = [] := rfl
@[simp] theorem State.resetOf_imem (p : Params) : (State.resetOf p).imem = [] := rfl
@[simp] theorem State.resetOf_drawIndex (p : Params) : (State.resetOf p).drawIndex = 0 := rfl

end Sys2Proof.Machine
end

