-- ==== Sys2Proof/Laws/Memory.lean ====
section
/-!
SUPPORT. Sys2Proof/Laws/Memory.lean: memory as a list of cells: read after write, the canonical form and what keeps it.
-/
namespace Sys2Proof.Machine

open Sys2Proof

/-! ### Reading -/

theorem Memory.read_of_lt {lo : Nat} {m : List Host.Cell} (h : Memory.sortedFrom lo m = true) {a : Nat} (ha : a < lo) :
    Memory.read m a = Memory.blank := by
  induction m generalizing lo with
  | nil => rfl
  | cons c t ih =>
    obtain ⟨b, v⟩ := c
    simp only [Memory.sortedFrom, Bool.and_eq_true, decide_eq_true_eq] at h
    rw [Memory.read, if_neg (by omega), ih h.2 (by omega)]

/-- A byte that was not written reads as before. -/
theorem Memory.read_write_other (m : List Host.Cell) {a c : Nat} (h : c ≠ a) (v : Byte) :
    Memory.read (Memory.write m a v) c = Memory.read m c := by
  induction m with
  | nil => by_cases hv : v = Memory.blank <;> simp [Memory.write, Memory.read, hv, h.symm]
  | cons d t ih =>
    obtain ⟨b, w⟩ := d
    simp only [Memory.write]
    split
    · split <;> simp [Memory.read, h.symm]
    · split
      · next hb => subst hb; split <;> simp [Memory.read, h.symm]
      · simp only [Memory.read, ih]

/-- The byte that was written reads as written, in a memory in canonical form. -/
theorem Memory.read_write_same {lo : Nat} {m : List Host.Cell} (h : Memory.sortedFrom lo m = true) (a : Nat) (v : Byte) :
    Memory.read (Memory.write m a v) a = v := by
  induction m generalizing lo with
  | nil => by_cases hv : v = Memory.blank <;> simp [Memory.write, Memory.read, hv]
  | cons d t ih =>
    obtain ⟨b, w⟩ := d
    simp only [Memory.sortedFrom, Bool.and_eq_true, decide_eq_true_eq] at h
    simp only [Memory.write]
    split
    · next hlt =>
      split
      · next hv => rw [Memory.read, if_neg (by omega), hv, Memory.read_of_lt h.2 (by omega)]
      · simp [Memory.read]
    · split
      · next hb =>
        subst hb
        split
        · next hv => rw [hv, Memory.read_of_lt h.2 (by omega)]
        · simp [Memory.read]
      · next hb => rw [Memory.read, if_neg (by omega), ih h.2]

/-! ### The canonical form -/

theorem Memory.sortedFrom_mono {lo lo' : Nat} {m : List Host.Cell} (h : Memory.sortedFrom lo m = true) (hl : lo' ≤ lo) :
    Memory.sortedFrom lo' m = true := by
  cases m with
  | nil => rfl
  | cons c t =>
    obtain ⟨b, v⟩ := c
    simp only [Memory.sortedFrom, Bool.and_eq_true, decide_eq_true_eq] at h ⊢
    exact ⟨⟨by omega, h.1.2⟩, h.2⟩

theorem Memory.sortedFrom_write {lo : Nat} {m : List Host.Cell} (h : Memory.sortedFrom lo m = true) {a : Nat}
    (ha : lo ≤ a) (v : Byte) : Memory.sortedFrom lo (Memory.write m a v) = true := by
  induction m generalizing lo with
  | nil => by_cases hv : v = Memory.blank <;> simp [Memory.write, Memory.sortedFrom, hv, ha]
  | cons d t ih =>
    obtain ⟨b, w⟩ := d
    have h' := h
    simp only [Memory.sortedFrom, Bool.and_eq_true, decide_eq_true_eq] at h
    simp only [Memory.write]
    split
    · next hlt =>
      split
      · exact h'
      · next hv =>
        simp only [Memory.sortedFrom, Bool.and_eq_true, decide_eq_true_eq, bne_iff_ne]
        exact ⟨⟨ha, hv⟩, ⟨by omega, by simpa using h.1.2⟩, h.2⟩
    · split
      · next hb =>
        split
        · exact Memory.sortedFrom_mono h.2 (by omega)
        · next hv =>
          simp only [Memory.sortedFrom, Bool.and_eq_true, decide_eq_true_eq, bne_iff_ne]
          exact ⟨⟨ha, hv⟩, by subst hb; exact h.2⟩
      · next hb =>
        simp only [Memory.sortedFrom, Bool.and_eq_true, decide_eq_true_eq]
        exact ⟨h.1, ih h.2 (by omega)⟩

/-- A write keeps the canonical form. -/
theorem Memory.wf_write {m : List Host.Cell} (h : Memory.wf m = true) (a : Nat) (v : Byte) :
    Memory.wf (Memory.write m a v) = true := Memory.sortedFrom_write h (Nat.zero_le a) v

theorem Memory.wf_resetOf (p : Params) : Memory.wf (State.resetOf p).mem = true := rfl

theorem Memory.wf_reset : Memory.wf State.reset.mem = true := Memory.wf_resetOf resetParams

/-- Equal contents are equal lists. -/
theorem Memory.eq_of_read_eq {lo : Nat} {m n : List Host.Cell} (hm : Memory.sortedFrom lo m = true)
    (hn : Memory.sortedFrom lo n = true) (h : ∀ a, Memory.read m a = Memory.read n a) : m = n := by
  induction m generalizing lo n with
  | nil =>
    cases n with
    | nil => rfl
    | cons d u =>
      obtain ⟨b, w⟩ := d
      simp only [Memory.sortedFrom, Bool.and_eq_true, decide_eq_true_eq, bne_iff_ne] at hn
      have := h b
      simp only [Memory.read, ↓reduceIte] at this
      exact absurd this.symm hn.1.2
  | cons c t ih =>
    obtain ⟨a, v⟩ := c
    have hm' := hm
    simp only [Memory.sortedFrom, Bool.and_eq_true, decide_eq_true_eq, bne_iff_ne] at hm
    cases n with
    | nil =>
      have := h a
      simp only [Memory.read, ↓reduceIte] at this
      exact absurd this hm.1.2
    | cons d u =>
      obtain ⟨b, w⟩ := d
      simp only [Memory.sortedFrom, Bool.and_eq_true, decide_eq_true_eq, bne_iff_ne] at hn
      have hab : a = b := by
        rcases Nat.lt_trichotomy a b with hlt | heq | hgt
        · have := h a
          rw [Memory.read, if_pos rfl, Memory.read, if_neg (by omega), Memory.read_of_lt hn.2 (by omega)] at this
          exact absurd this hm.1.2
        · exact heq
        · have := h b
          rw [Memory.read, if_neg (by omega), Memory.read_of_lt hm.2 (by omega), Memory.read, if_pos rfl] at this
          exact absurd this.symm hn.1.2
      subst hab
      have hv : v = w := by simpa [Memory.read] using h a
      subst hv
      have : t = u := by
        refine ih hm.2 hn.2 fun c => ?_
        by_cases hc : a = c
        · subst hc; rw [Memory.read_of_lt hm.2 (by omega), Memory.read_of_lt hn.2 (by omega)]
        · simpa [Memory.read, hc] using h c
      rw [this]

/-! ### The machine's bytes -/

theorem State.byte_setByte_same {s : State} (h : Memory.wf s.mem = true) {a b : Word} (hb : s.norm b = s.norm a)
    (v : Byte) : (s.setByte a v).byte b = v := by
  simp only [State.byte, State.norm_setByte, State.setByte_mem, hb]
  exact Memory.read_write_same h _ v

theorem State.byte_setByte_other {s : State} {a b : Word} (hb : s.norm b ≠ s.norm a) (v : Byte) :
    (s.setByte a v).byte b = s.byte b := by
  simp only [State.byte, State.norm_setByte, State.setByte_mem]
  exact Memory.read_write_other _ (fun h => hb (BitVec.eq_of_toNat_eq h)) v

/-- What stays when n bytes are stored. -/
theorem State.writeBytes_unchanged (s : State) (a : Word) (n : Nat) (v : Word) :
    s.writeBytes a n v =
      { s with mem := (s.writeBytes a n v).mem, reservation := (s.writeBytes a n v).reservation } := by
  induction n generalizing s a v with
  | zero => rfl
  | succ n ih => rw [State.writeBytes, ih]; rfl

@[simp] theorem State.writeBytes_cfg (s : State) (a : Word) (n : Nat) (v : Word) : (s.writeBytes a n v).cfg = s.cfg := by
  rw [State.writeBytes_unchanged]
@[simp] theorem State.writeBytes_x (s : State) (a : Word) (n : Nat) (v : Word) : (s.writeBytes a n v).x = s.x := by
  rw [State.writeBytes_unchanged]
@[simp] theorem State.writeBytes_f (s : State) (a : Word) (n : Nat) (v : Word) : (s.writeBytes a n v).f = s.f := by
  rw [State.writeBytes_unchanged]
@[simp] theorem State.writeBytes_pc (s : State) (a : Word) (n : Nat) (v : Word) : (s.writeBytes a n v).pc = s.pc := by
  rw [State.writeBytes_unchanged]
@[simp] theorem State.writeBytes_fflags (s : State) (a : Word) (n : Nat) (v : Word) : (s.writeBytes a n v).fflags = s.fflags := by
  rw [State.writeBytes_unchanged]
@[simp] theorem State.writeBytes_frm (s : State) (a : Word) (n : Nat) (v : Word) : (s.writeBytes a n v).frm = s.frm := by
  rw [State.writeBytes_unchanged]
@[simp] theorem State.writeBytes_priv (s : State) (a : Word) (n : Nat) (v : Word) : (s.writeBytes a n v).priv = s.priv := by
  rw [State.writeBytes_unchanged]
@[simp] theorem State.writeBytes_mstatus (s : State) (a : Word) (n : Nat) (v : Word) : (s.writeBytes a n v).mstatus = s.mstatus := by
  rw [State.writeBytes_unchanged]
@[simp] theorem State.writeBytes_mepc (s : State) (a : Word) (n : Nat) (v : Word) : (s.writeBytes a n v).mepc = s.mepc := by
  rw [State.writeBytes_unchanged]
@[simp] theorem State.writeBytes_sepc (s : State) (a : Word) (n : Nat) (v : Word) : (s.writeBytes a n v).sepc = s.sepc := by
  rw [State.writeBytes_unchanged]
@[simp] theorem State.writeBytes_mcause (s : State) (a : Word) (n : Nat) (v : Word) : (s.writeBytes a n v).mcause = s.mcause := by
  rw [State.writeBytes_unchanged]
@[simp] theorem State.writeBytes_mtval (s : State) (a : Word) (n : Nat) (v : Word) : (s.writeBytes a n v).mtval = s.mtval := by
  rw [State.writeBytes_unchanged]
@[simp] theorem State.writeBytes_mscratch (s : State) (a : Word) (n : Nat) (v : Word) : (s.writeBytes a n v).mscratch = s.mscratch := by
  rw [State.writeBytes_unchanged]
@[simp] theorem State.writeBytes_mtvec (s : State) (a : Word) (n : Nat) (v : Word) : (s.writeBytes a n v).mtvec = s.mtvec := by
  rw [State.writeBytes_unchanged]
@[simp] theorem State.writeBytes_scause (s : State) (a : Word) (n : Nat) (v : Word) : (s.writeBytes a n v).scause = s.scause := by
  rw [State.writeBytes_unchanged]
@[simp] theorem State.writeBytes_stval (s : State) (a : Word) (n : Nat) (v : Word) : (s.writeBytes a n v).stval = s.stval := by
  rw [State.writeBytes_unchanged]
@[simp] theorem State.writeBytes_sscratch (s : State) (a : Word) (n : Nat) (v : Word) : (s.writeBytes a n v).sscratch = s.sscratch := by
  rw [State.writeBytes_unchanged]
@[simp] theorem State.writeBytes_stvec (s : State) (a : Word) (n : Nat) (v : Word) : (s.writeBytes a n v).stvec = s.stvec := by
  rw [State.writeBytes_unchanged]
@[simp] theorem State.writeBytes_mie (s : State) (a : Word) (n : Nat) (v : Word) : (s.writeBytes a n v).mie = s.mie := by
  rw [State.writeBytes_unchanged]
@[simp] theorem State.writeBytes_mip (s : State) (a : Word) (n : Nat) (v : Word) : (s.writeBytes a n v).mip = s.mip := by
  rw [State.writeBytes_unchanged]
@[simp] theorem State.writeBytes_lines (s : State) (a : Word) (n : Nat) (v : Word) : (s.writeBytes a n v).lines = s.lines := by
  rw [State.writeBytes_unchanged]
@[simp] theorem State.writeBytes_mcounteren (s : State) (a : Word) (n : Nat) (v : Word) : (s.writeBytes a n v).mcounteren = s.mcounteren := by
  rw [State.writeBytes_unchanged]
@[simp] theorem State.writeBytes_scounteren (s : State) (a : Word) (n : Nat) (v : Word) : (s.writeBytes a n v).scounteren = s.scounteren := by
  rw [State.writeBytes_unchanged]
@[simp] theorem State.writeBytes_mcycle (s : State) (a : Word) (n : Nat) (v : Word) : (s.writeBytes a n v).mcycle = s.mcycle := by
  rw [State.writeBytes_unchanged]
@[simp] theorem State.writeBytes_minstret (s : State) (a : Word) (n : Nat) (v : Word) : (s.writeBytes a n v).minstret = s.minstret := by
  rw [State.writeBytes_unchanged]
@[simp] theorem State.writeBytes_mtime (s : State) (a : Word) (n : Nat) (v : Word) : (s.writeBytes a n v).mtime = s.mtime := by
  rw [State.writeBytes_unchanged]
@[simp] theorem State.writeBytes_imem (s : State) (a : Word) (n : Nat) (v : Word) : (s.writeBytes a n v).imem = s.imem := by
  rw [State.writeBytes_unchanged]
@[simp] theorem State.writeBytes_drawIndex (s : State) (a : Word) (n : Nat) (v : Word) : (s.writeBytes a n v).drawIndex = s.drawIndex := by
  rw [State.writeBytes_unchanged]

@[simp] theorem State.norm_writeBytes (s : State) (a : Word) (n : Nat) (v w : Word) :
    (s.writeBytes a n v).norm w = s.norm w := State.norm_congr (by simp) w
@[simp] theorem State.getX_writeBytes (s : State) (a : Word) (n : Nat) (v : Word) (r : Reg) :
    (s.writeBytes a n v).getX r = s.getX r := by simp only [State.getX, State.norm_writeBytes, State.writeBytes_x]

/-- A byte outside the stored ones reads as before. -/
theorem State.byte_writeBytes_other {s : State} {a b : Word} {n : Nat} (v : Word)
    (h : ∀ i < n, s.norm b ≠ s.norm (a + BitVec.ofNat 64 i)) : (s.writeBytes a n v).byte b = s.byte b := by
  induction n generalizing s a v with
  | zero => rfl
  | succ n ih =>
    rw [State.writeBytes, ih]
    · exact State.byte_setByte_other (by simpa using h 0 (by omega)) _
    · intro i hi
      have := h (i + 1) (by omega)
      simp only [State.norm_setByte]
      rwa [BitVec.add_assoc, show (1 : Word) + BitVec.ofNat 64 i = BitVec.ofNat 64 (i + 1) by
        rw [Nat.add_comm i 1, BitVec.ofNat_add]; rfl]

theorem State.wf_setByte {s : State} (h : Memory.wf s.mem = true) (a : Word) (v : Byte) :
    Memory.wf (s.setByte a v).mem = true := Memory.wf_write h _ _

theorem State.wf_writeBytes {s : State} (h : Memory.wf s.mem = true) (a : Word) (n : Nat) (v : Word) :
    Memory.wf (s.writeBytes a n v).mem = true := by
  induction n generalizing s a v with
  | zero => exact h
  | succ n ih => exact ih (State.wf_setByte h _ _) _ _

/-- Placing bytes keeps both memories in canonical form. -/
theorem State.memoryCanonical_place {s : State} (h : s.memoryCanonical = true) (a : Word) (l : List Byte) :
    (s.place a l).memoryCanonical = true := by
  induction l generalizing s a with
  | nil => exact h
  | cons b t ih =>
    refine ih ?_ (a + 1)
    simp only [State.memoryCanonical, Bool.and_eq_true] at h ⊢
    exact ⟨Memory.wf_write h.1 _ _, Memory.wf_write h.2 _ _⟩

/-- Two addresses fewer than 2^32 apart are different addresses of the machine. -/
theorem State.norm_add_ne (s : State) (a : Word) {i j : Nat} (hi : i < 2 ^ 32) (hj : j < 2 ^ 32) (h : i ≠ j) :
    s.norm (a + BitVec.ofNat 64 i) ≠ s.norm (a + BitVec.ofNat 64 j) := by
  intro e
  have e' := congrArg BitVec.toNat e
  simp only [State.norm, Params.norm] at e'
  split at e' <;>
    simp only [BitVec.toNat_setWidth, BitVec.toNat_add, BitVec.toNat_ofNat] at e' <;> omega

/-- The i-th stored byte reads as the i-th byte of the value. -/
theorem State.byte_writeBytes_same {s : State} (hw : Memory.wf s.mem = true) (a : Word) (n : Nat) (hn : n < 2 ^ 32)
    (v : Word) {i : Nat} (hi : i < n) :
    (s.writeBytes a n v).byte (a + BitVec.ofNat 64 i) = (v >>> (8 * i)).setWidth 8 := by
  induction n generalizing s a v i with
  | zero => omega
  | succ n ih =>
    rw [State.writeBytes]
    cases i with
    | zero =>
      rw [State.byte_writeBytes_other]
      · rw [State.byte_setByte_same hw (by simp)]; rfl
      · intro j hj
        have := State.norm_add_ne s a (i := 0) (j := j + 1) (by omega) (by omega) (by omega)
        simp only [State.norm_setByte]
        rwa [BitVec.add_assoc a 1, show (1 : Word) + BitVec.ofNat 64 j = BitVec.ofNat 64 (j + 1) by
          rw [Nat.add_comm j 1, BitVec.ofNat_add]; rfl]
    | succ i =>
      have := ih (s := s.setByte a (v.setWidth 8)) (State.wf_setByte hw _ _) (a + 1) (by omega) (v >>> 8) (i := i)
        (by omega)
      rw [BitVec.add_assoc, show (1 : Word) + BitVec.ofNat 64 i = BitVec.ofNat 64 (i + 1) by
        rw [Nat.add_comm i 1, BitVec.ofNat_add]; rfl] at this
      rw [this, ← BitVec.shiftRight_add, show 8 + 8 * i = 8 * (i + 1) by omega]

end Sys2Proof.Machine
end

