-- ==== Sys2Proof/Laws/Ops.lean ====
section
/-!
SUPPORT. Sys2Proof/Laws/Ops.lean: for each shared operation, once, everything it can answer.

`<op>_next` says what holds when the operation answers a next state; `<op>_of_…` when it does so and with which. Later
proofs cite these and unfold no operation.
-/
namespace Sys2Proof.Machine

open Sys2Proof

/-! ### Registers -/

theorem State.getX_zero (s : State) : s.getX 0 = 0 := rfl

theorem State.norm_norm (s : State) (v : Word) : s.norm (s.norm v) = s.norm v := by
  simp only [State.norm, Params.norm]
  split
  · ext i hi; simp
  · rfl

theorem State.fits_norm (s : State) (v : Word) : s.fits (s.norm v) = true := by simp [State.fits, State.norm_norm]

theorem State.norm_getX (s : State) (i : Reg) : s.norm (s.getX i) = s.getX i := by
  unfold State.getX
  split
  · simp only [State.norm, Params.norm]; split <;> rfl
  · exact State.norm_norm s _

/-- The register that is written holds the value; x0 holds 0. -/
theorem State.getX_setX_same (s : State) (i : Reg) (v : Word) :
    (s.setX i v).getX i = if i = 0 then 0 else s.norm v := by
  by_cases h : i = 0
  · subst h; rfl
  · simp only [State.getX, State.setX, if_neg h]
    simp only [Vector.getElem_set_self]
    exact State.norm_norm s v

/-- Every other register keeps its value. -/
theorem State.getX_setX_other (s : State) {i j : Reg} (h : j ≠ i) (v : Word) : (s.setX i v).getX j = s.getX j := by
  unfold State.setX
  split
  · rfl
  · simp only [State.getX]
    split
    · rfl
    · rw [Vector.getElem_set_ne]
      · rfl
      · exact fun e => h (BitVec.eq_of_toNat_eq e.symm)

theorem State.norm_toNat_lt (s : State) (v : Word) : (s.norm v).toNat < 2 ^ s.cfg.xlen.bits := by
  simp only [State.norm, Params.norm]
  cases h : s.cfg.xlen <;> simp only [Xlen.bits, BitVec.toNat_setWidth] <;> omega

/-- `norm` is the residue modulo 2^XLEN. -/
theorem State.norm_toNat (s : State) (v : Word) : (s.norm v).toNat = v.toNat % 2 ^ s.cfg.xlen.bits := by
  simp only [State.norm, Params.norm]
  cases h : s.cfg.xlen <;> simp only [Xlen.bits, BitVec.toNat_setWidth] <;> omega

/-! ### Exceptions -/

theorem State.trap_next {s t : State} {irq : Bool} {code : Nat} {v : Word} (h : s.trap irq code v = .next t) :
    s.cfg.trapModel = .full ∧ t = s.enterTrap irq code v := by
  unfold State.trap at h
  split at h
  · next hm => cases h; exact ⟨hm, rfl⟩
  · cases h

theorem State.trap_of_full {s : State} (h : s.cfg.trapModel = .full) (irq : Bool) (code : Nat) (v : Word) :
    s.trap irq code v = .next (s.enterTrap irq code v) := by simp only [State.trap, h]

theorem State.trap_of_terminal {s : State} (h : s.cfg.trapModel = .terminal) (irq : Bool) (code : Nat) (v : Word) :
    s.trap irq code v = .fault (.trapped irq code (s.norm v) s.pc) := by simp only [State.trap, h]

theorem State.raise_next {s t : State} {c : Cause} {v : Word} (h : s.raise c v = .next t) :
    s.cfg.trapModel = .full ∧ t = s.enterTrap false c.code v := State.trap_next h

theorem State.illegal_next {s t : State} {i : Instr} (h : s.illegal i = .next t) :
    s.cfg.trapModel = .full ∧ t = s.enterTrap false 2 (encode i).value := State.raise_next h

/-! ### The gate -/

theorem State.gate_of_permits {s : State} {i : Instr} (h : s.permits i = true) (r : Result) : s.gate i r = r := by
  simp only [State.gate, h, ↓reduceIte]

theorem State.gate_of_not_permits {s : State} {i : Instr} (h : s.permits i = false) (r : Result) :
    s.gate i r = s.illegal i := by simp [State.gate, h]

theorem State.gate_next {s t : State} {i : Instr} {r : Result} (h : s.gate i r = .next t) :
    (s.permits i = true ∧ r = .next t) ∨ (s.permits i = false ∧ s.illegal i = .next t) := by
  cases hp : s.permits i
  · exact .inr ⟨rfl, by rwa [State.gate_of_not_permits hp] at h⟩
  · exact .inl ⟨rfl, by rwa [State.gate_of_permits hp] at h⟩

/-! ### Access checks -/

/-- A byte the access may use: it lies in a memory region with the permissions. -/
theorem State.checkByte_ok_iff (s : State) (k : Access) (a : Word) :
    s.checkByte k a = .ok ↔ s.granted k a = true := by
  simp only [State.checkByte, State.granted]
  cases Params.regionAt s.cfg (s.norm a).toNat with
  | none => simp
  | some r => cases hk : r.kind <;> cases hg : Region.grants r k <;> simp [hk, hg]

theorem Check.both_ok_iff (c d : Check) : c.both d = .ok ↔ c = .ok ∧ d = .ok := by
  cases c <;> cases d <;> simp [Check.both]

theorem add_one_add_ofNat (a : Word) (i : Nat) : a + 1 + BitVec.ofNat 64 i = a + BitVec.ofNat 64 (i + 1) := by
  rw [BitVec.add_assoc, Nat.add_comm i 1, BitVec.ofNat_add]; rfl

theorem forall_bytes_succ (P : Word → Prop) (a : Word) (n : Nat) :
    (P a ∧ ∀ i < n, P (a + 1 + BitVec.ofNat 64 i)) ↔ ∀ i < n + 1, P (a + BitVec.ofNat 64 i) := by
  constructor
  · rintro ⟨h0, h⟩ i hi
    cases i with
    | zero => simpa using h0
    | succ i => rw [← add_one_add_ofNat]; exact h i (by omega)
  · intro h
    exact ⟨by simpa using h 0 (by omega), fun i hi => by rw [add_one_add_ofNat]; exact h (i + 1) (by omega)⟩

/-- The check of an access passes when every byte may be used. -/
theorem State.check_ok_iff (s : State) (k : Access) (a : Word) (n : Nat) :
    s.check k a n = .ok ↔ s.grantedAll k a n := by
  unfold State.grantedAll
  induction n generalizing a with
  | zero => simp [State.check]
  | succ n ih =>
    rw [State.check, Check.both_ok_iff, State.checkByte_ok_iff, ih]
    exact forall_bytes_succ (fun b => s.granted k b = true) a n

theorem State.firstRefused_ok_iff (s : State) (k : Access) (a : Word) (n : Nat) :
    s.firstRefused k a n = .ok ↔ s.grantedAll k a n := by
  unfold State.grantedAll
  induction n generalizing a with
  | zero => simp [State.firstRefused]
  | succ n ih =>
    rw [← forall_bytes_succ (fun b => s.granted k b = true) a n, ← ih, ← State.checkByte_ok_iff, State.firstRefused]
    cases h : s.checkByte k a <;> simp

/-- A forbidden byte is denied. -/
theorem State.checkByte_denied_iff (s : State) (k : Access) (a : Word) :
    s.checkByte k a = .denied ↔ s.forbidden k a = true := by
  simp only [State.checkByte, State.forbidden]
  cases Params.regionAt s.cfg (s.norm a).toNat with
  | none => simp
  | some r => cases hk : r.kind <;> cases hg : Region.grants r k <;> simp [hk, hg]

theorem Check.both_denied_iff (c d : Check) : c.both d = .denied ↔ c = .denied ∨ d = .denied := by
  cases c <;> cases d <;> simp [Check.both]

theorem exists_byte_succ (P : Word → Prop) (a : Word) (n : Nat) :
    (P a ∨ ∃ i < n, P (a + 1 + BitVec.ofNat 64 i)) ↔ ∃ i < n + 1, P (a + BitVec.ofNat 64 i) := by
  have h := forall_bytes_succ (fun b => ¬ P b) a n
  rw [← not_iff_not]
  push Not
  exact h

/-- The check of an access denies it exactly when a byte of it is forbidden. -/
theorem State.check_denied_iff (s : State) (k : Access) (a : Word) (n : Nat) :
    s.check k a n = .denied ↔ ∃ i < n, s.forbidden k (a + BitVec.ofNat 64 i) = true := by
  induction n generalizing a with
  | zero => simp [State.check]
  | succ n ih =>
    rw [State.check, Check.both_denied_iff, State.checkByte_denied_iff, ih]
    exact exists_byte_succ (fun b => s.forbidden k b = true) a n

/-- A split access is denied at its first byte that is not granted, if that byte is forbidden. -/
theorem State.firstRefused_of_forbidden {s : State} {k : Access} {a : Word} {m n : Nat} (hm : m < n)
    (hg : s.grantedAll k a m) (hf : s.forbidden k (a + BitVec.ofNat 64 m) = true) : s.firstRefused k a n = .denied := by
  induction n generalizing a m with
  | zero => omega
  | succ n ih =>
    cases m with
    | zero => rw [State.firstRefused, (State.checkByte_denied_iff s k a).2 (by simpa using hf)]
    | succ m =>
      have h := (forall_bytes_succ (fun b => s.granted k b = true) a m).2 hg
      rw [State.firstRefused, (State.checkByte_ok_iff s k a).2 h.1]
      refine ih (m := m) (by omega) h.2 ?_
      rwa [add_one_add_ofNat]

theorem State.multipleOf_iff (s : State) (a : Word) (n : Nat) : s.multipleOf a n ↔ s.aligned a n = true := by
  simp [State.multipleOf, State.aligned]

/-! ### Loads -/

theorem State.load_of_granted {s : State} {a : Word} {n : Nat} (hg : s.grantedAll .load a n)
    (ha : s.aligned a n = true ∨ s.cfg.misaligned = .split) (k : Word → Result) :
    s.load a n k = k (s.readBytes a n) := by
  unfold State.load
  split
  · rw [(State.check_ok_iff s .load a n).2 hg]
  · next h =>
    rw [ha.resolve_left h]
    simp only
    rw [(State.firstRefused_ok_iff s .load a n).2 hg]

theorem State.load_next {s t : State} {a : Word} {n : Nat} {k : Word → Result} (h : s.load a n k = .next t) :
    (s.grantedAll .load a n ∧ k (s.readBytes a n) = .next t) ∨ s.raise .loadAccessFault a = .next t ∨
      s.raise .loadAddressMisaligned a = .next t := by
  unfold State.load at h
  split at h
  · split at h
    · next hc => exact .inl ⟨(State.check_ok_iff s .load a n).1 hc, h⟩
    · exact .inr (.inl h)
    · cases h
  · split at h
    · exact .inr (.inr h)
    · split at h
      · next hc => exact .inl ⟨(State.firstRefused_ok_iff s .load a n).1 hc, h⟩
      · exact .inr (.inl h)
      · cases h

theorem State.reservedLoad_of_granted {s : State} {a : Word} {n : Nat} (hg : s.grantedAll .load a n)
    (ha : s.aligned a n = true) (k : Word → Result) : s.reservedLoad a n k = k (s.readBytes a n) := by
  unfold State.reservedLoad
  rw [if_pos ha, (State.check_ok_iff s .load a n).2 hg]

theorem State.reservedLoad_next {s t : State} {a : Word} {n : Nat} {k : Word → Result}
    (h : s.reservedLoad a n k = .next t) :
    (s.aligned a n = true ∧ s.grantedAll .load a n ∧ k (s.readBytes a n) = .next t) ∨
      s.raise .loadAccessFault a = .next t ∨ s.raise .loadAddressMisaligned a = .next t := by
  unfold State.reservedLoad at h
  split at h
  · next ha =>
    split at h
    · next hc => exact .inl ⟨ha, (State.check_ok_iff s .load a n).1 hc, h⟩
    · exact .inr (.inl h)
    · cases h
  · exact .inr (.inr h)

theorem State.load_of_forbidden {s : State} {a : Word} {n : Nat} (ha : s.aligned a n = true)
    (hf : ∃ i < n, s.forbidden .load (a + BitVec.ofNat 64 i) = true) (k : Word → Result) :
    s.load a n k = s.raise .loadAccessFault a := by
  rw [State.load, if_pos ha, (State.check_denied_iff s .load a n).2 hf]

theorem State.load_of_split_forbidden {s : State} {a : Word} {m n : Nat} (ha : s.aligned a n ≠ true)
    (hs : s.cfg.misaligned = .split) (hm : m < n) (hg : s.grantedAll .load a m)
    (hf : s.forbidden .load (a + BitVec.ofNat 64 m) = true) (k : Word → Result) :
    s.load a n k = s.raise .loadAccessFault a := by
  rw [State.load, if_neg ha, hs]
  simp only
  rw [State.firstRefused_of_forbidden hm hg hf]

theorem State.reservedLoad_of_forbidden {s : State} {a : Word} {n : Nat} (ha : s.aligned a n = true)
    (hf : ∃ i < n, s.forbidden .load (a + BitVec.ofNat 64 i) = true) (k : Word → Result) :
    s.reservedLoad a n k = s.raise .loadAccessFault a := by
  rw [State.reservedLoad, if_pos ha, (State.check_denied_iff s .load a n).2 hf]

/-! ### Stores -/

theorem State.splitStore_of_granted {s : State} {a at_ : Word} {n : Nat} (hg : s.grantedAll .store at_ n) (v : Word)
    (k : State → Result) : s.splitStore a at_ n v k = k (s.writeBytes at_ n v) := by
  unfold State.grantedAll at hg
  induction n generalizing s at_ v with
  | zero => rfl
  | succ n ih =>
    have h := (forall_bytes_succ (fun b => s.granted .store b = true) at_ n).2 hg
    rw [State.splitStore, (State.checkByte_ok_iff s .store at_).2 h.1]
    exact ih (s := s.setByte at_ (v.setWidth 8)) h.2 (v >>> 8)

theorem State.store_of_granted {s : State} {a : Word} {n : Nat} (hg : s.grantedAll .store a n)
    (ha : s.aligned a n = true ∨ s.cfg.misaligned = .split) (v : Word) (k : State → Result) :
    s.store a n v k = k (s.writeBytes a n v) := by
  unfold State.store
  split
  · rw [(State.check_ok_iff s .store a n).2 hg]
  · next h =>
    rw [ha.resolve_left h]
    exact State.splitStore_of_granted hg v k

/-- A split store stores all its bytes, or the first m of them and then faults. -/
theorem State.splitStore_next {s t : State} {a at_ : Word} {n : Nat} {v : Word} {k : State → Result}
    (h : s.splitStore a at_ n v k = .next t) :
    k (s.writeBytes at_ n v) = .next t ∨
      ∃ m < n, (s.writeBytes at_ m v).raise .storeAccessFault a = .next t := by
  induction n generalizing s at_ v with
  | zero => exact .inl h
  | succ n ih =>
    rw [State.splitStore] at h
    split at h
    · rcases ih h with h | ⟨m, hm, h⟩
      · exact .inl h
      · exact .inr ⟨m + 1, by omega, h⟩
    · exact .inr ⟨0, by omega, h⟩
    · cases h

theorem State.store_next {s t : State} {a : Word} {n : Nat} {v : Word} {k : State → Result}
    (h : s.store a n v k = .next t) :
    k (s.writeBytes a n v) = .next t ∨ (∃ m, m ≤ n ∧ (s.writeBytes a m v).raise .storeAccessFault a = .next t) ∨
      s.raise .storeAddressMisaligned a = .next t := by
  unfold State.store at h
  split at h
  · split at h
    · exact .inl h
    · exact .inr (.inl ⟨0, by omega, h⟩)
    · cases h
  · split at h
    · exact .inr (.inr h)
    · rcases State.splitStore_next h with h | ⟨m, hm, h⟩
      · exact .inl h
      · exact .inr (.inl ⟨m, by omega, h⟩)

/-- A split store writes its bytes before the first that is forbidden, and faults. -/
theorem State.splitStore_of_forbidden {s : State} {a at_ : Word} {m n : Nat} (hm : m < n)
    (hg : s.grantedAll .store at_ m) (hf : s.forbidden .store (at_ + BitVec.ofNat 64 m) = true) (v : Word)
    (k : State → Result) : s.splitStore a at_ n v k = (s.writeBytes at_ m v).raise .storeAccessFault a := by
  induction n generalizing s at_ m v with
  | zero => omega
  | succ n ih =>
    cases m with
    | zero => rw [State.splitStore, (State.checkByte_denied_iff s .store at_).2 (by simpa using hf)]; rfl
    | succ m =>
      have h := (forall_bytes_succ (fun b => s.granted .store b = true) at_ m).2 hg
      rw [State.splitStore, (State.checkByte_ok_iff s .store at_).2 h.1]
      refine ih (s := s.setByte at_ (v.setWidth 8)) (m := m) (by omega) h.2 ?_ (v >>> 8)
      rw [add_one_add_ofNat]; exact hf

theorem State.store_of_forbidden {s : State} {a : Word} {n : Nat} (ha : s.aligned a n = true)
    (hf : ∃ i < n, s.forbidden .store (a + BitVec.ofNat 64 i) = true) (v : Word) (k : State → Result) :
    s.store a n v k = s.raise .storeAccessFault a := by
  rw [State.store, if_pos ha, (State.check_denied_iff s .store a n).2 hf]

theorem State.store_of_split_forbidden {s : State} {a : Word} {m n : Nat} (ha : s.aligned a n ≠ true)
    (hs : s.cfg.misaligned = .split) (hm : m < n) (hg : s.grantedAll .store a m)
    (hf : s.forbidden .store (a + BitVec.ofNat 64 m) = true) (v : Word) (k : State → Result) :
    s.store a n v k = (s.writeBytes a m v).raise .storeAccessFault a := by
  rw [State.store, if_neg ha, hs]
  exact State.splitStore_of_forbidden hm hg hf v k

/-! ### Atomics -/

theorem State.atomicallyOr_of_granted {s : State} {a : Word} {n : Nat} (hg : s.grantedAll .atomic a n)
    (ha : s.aligned a n = true) (k : Result) (onDevice : Nat → Result) : s.atomicallyOr a n k onDevice = k := by
  rw [State.atomicallyOr, if_pos ha, (State.check_ok_iff s .atomic a n).2 hg]

theorem State.atomicallyOr_of_forbidden {s : State} {a : Word} {n : Nat} (ha : s.aligned a n = true)
    (hf : ∃ i < n, s.forbidden .atomic (a + BitVec.ofNat 64 i) = true) (k : Result) (onDevice : Nat → Result) :
    s.atomicallyOr a n k onDevice = s.raise .storeAccessFault a := by
  rw [State.atomicallyOr, if_pos ha, (State.check_denied_iff s .atomic a n).2 hf]

theorem State.atomicallyOr_of_misaligned {s : State} {a : Word} {n : Nat} (ha : s.aligned a n ≠ true) (k : Result)
    (onDevice : Nat → Result) : s.atomicallyOr a n k onDevice = s.raise .storeAddressMisaligned a := by
  rw [State.atomicallyOr, if_neg ha]

/-- What follows the checks at memory and at a device alike needs no more than permission. -/
theorem State.atomicallyOr_of_permitted {s : State} {a : Word} {n : Nat} (ha : s.aligned a n = true)
    (hf : ∀ i < n, s.forbidden .atomic (a + BitVec.ofNat 64 i) = false) (k : Result) :
    s.atomicallyOr a n k (fun _ => k) = k := by
  rw [State.atomicallyOr, if_pos ha]
  split
  · rfl
  · next hc =>
    obtain ⟨i, hi, h⟩ := (State.check_denied_iff s .atomic a n).1 hc
    rw [hf i hi] at h
    cases h
  · rfl

theorem State.atomicallyOr_next {s t : State} {a : Word} {n : Nat} {k : Result} {onDevice : Nat → Result}
    (h : s.atomicallyOr a n k onDevice = .next t) :
    (s.aligned a n = true ∧ ((s.grantedAll .atomic a n ∧ k = .next t) ∨ ∃ d, onDevice d = .next t)) ∨
      s.raise .storeAccessFault a = .next t ∨ s.raise .storeAddressMisaligned a = .next t := by
  unfold State.atomicallyOr at h
  split at h
  · next ha =>
    split at h
    · next hc => exact .inl ⟨ha, .inl ⟨(State.check_ok_iff s .atomic a n).1 hc, h⟩⟩
    · exact .inr (.inl h)
    · exact .inl ⟨ha, .inr ⟨_, h⟩⟩
  · exact .inr (.inr h)

theorem State.atomically_of_granted {s : State} {a : Word} {n : Nat} (hg : s.grantedAll .atomic a n)
    (ha : s.aligned a n = true) (k : Result) : s.atomically a n k = k := State.atomicallyOr_of_granted hg ha k _

theorem State.atomically_of_forbidden {s : State} {a : Word} {n : Nat} (ha : s.aligned a n = true)
    (hf : ∃ i < n, s.forbidden .atomic (a + BitVec.ofNat 64 i) = true) (k : Result) :
    s.atomically a n k = s.raise .storeAccessFault a := State.atomicallyOr_of_forbidden ha hf k _

theorem State.atomically_next {s t : State} {a : Word} {n : Nat} {k : Result} (h : s.atomically a n k = .next t) :
    (s.aligned a n = true ∧ s.grantedAll .atomic a n ∧ k = .next t) ∨ s.raise .storeAccessFault a = .next t ∨
      s.raise .storeAddressMisaligned a = .next t := by
  rcases State.atomicallyOr_next h with ⟨ha, ⟨hg, h⟩ | ⟨d, h⟩⟩ | h
  · exact .inl ⟨ha, hg, h⟩
  · cases h
  · exact .inr h

/-- A store-conditional stores and writes 0, or fails and writes SC_FAIL_CODE, or raises. -/
theorem State.storeConditional_next {s t : State} {rd rs1 rs2 : Reg} {n : Nat}
    (h : s.storeConditional rd rs1 rs2 n = .next t) :
    (s.scSucceeds (s.getX rs1) n = true ∧ s.grantedAll .atomic (s.getX rs1) n ∧
      t = { s.writeBytes (s.getX rs1) n (s.getX rs2) with reservation := none }.wrote 4 rd 0) ∨
    (s.scSucceeds (s.getX rs1) n = false ∧ t = { s with reservation := none }.wrote 4 rd s.cfg.scFailCode) ∨
    s.raise .storeAccessFault (s.getX rs1) = .next t ∨ s.raise .storeAddressMisaligned (s.getX rs1) = .next t := by
  unfold State.storeConditional at h
  simp only at h
  split at h
  · next hs =>
    rcases State.atomically_next h with ⟨-, hg, h⟩ | h
    · cases h; exact .inl ⟨hs, hg, rfl⟩
    · exact .inr (.inr h)
  · next hs =>
    rcases State.atomicallyOr_next h with ⟨-, ⟨-, h⟩ | ⟨d, h⟩⟩ | h
    · cases h; exact .inr (.inl ⟨by simpa using hs, rfl⟩)
    · cases h; exact .inr (.inl ⟨by simpa using hs, rfl⟩)
    · exact .inr (.inr h)

/-- Without its reservation a store-conditional at permitted bytes, device bytes among them, fails. -/
theorem State.storeConditional_of_failing {s : State} {rs1 : Reg} {n : Nat}
    (hs : s.scSucceeds (s.getX rs1) n = false) (ha : s.aligned (s.getX rs1) n = true)
    (hf : ∀ i < n, s.forbidden .atomic (s.getX rs1 + BitVec.ofNat 64 i) = false) (rd rs2 : Reg) :
    s.storeConditional rd rs1 rs2 n = .next ({ s with reservation := none }.wrote 4 rd s.cfg.scFailCode) := by
  simp only [State.storeConditional, hs, Bool.false_eq_true, ↓reduceIte]
  exact State.atomicallyOr_of_permitted ha hf _

/-! ### Control transfer -/

theorem State.jumpTo_next {s t : State} {a : Word} (h : s.jumpTo a = .next t) :
    (s.badTarget a = false ∧ t = { s with pc := a }.retire) ∨
      s.raise .instructionAddressMisaligned a = .next t := by
  unfold State.jumpTo at h
  split at h
  · exact .inr h
  · next hb => cases h; exact .inl ⟨by simpa using hb, rfl⟩

theorem State.jumpLink_next {s t : State} {len : Word} {rd : Reg} {a : Word} (h : s.jumpLink len rd a = .next t) :
    (s.badTarget a = false ∧ t = { s.setX rd (s.norm (s.pc + len)) with pc := a }.retire) ∨
      s.raise .instructionAddressMisaligned a = .next t := by
  unfold State.jumpLink at h
  split at h
  · exact .inr h
  · next hb => cases h; exact .inl ⟨by simpa using hb, rfl⟩

theorem State.branch_next {s t : State} {n : Nat} {len : Word} {taken : Bool} {off : BitVec n}
    (h : s.branch len taken off = .next t) :
    (taken = false ∧ t = (s.advance len).retire) ∨
      (taken = true ∧ s.badTarget (s.norm (s.pc + s.sext off)) = false ∧
        t = { s with pc := s.norm (s.pc + s.sext off) }.retire) ∨
      (taken = true ∧ s.raise .instructionAddressMisaligned (s.norm (s.pc + s.sext off)) = .next t) := by
  unfold State.branch at h
  split at h
  · next ht =>
    rcases State.jumpTo_next h with ⟨hb, ht'⟩ | h
    · exact .inr (.inl ⟨ht, hb, ht'⟩)
    · exact .inr (.inr ⟨ht, h⟩)
  · next ht => cases h; exact .inl ⟨by simpa using ht, rfl⟩

/-! ### Floating point -/

theorem State.rounded_next {s t : State} {i : Instr} {rm : BitVec 3} {k : Rounding → Result}
    (h : s.rounded i rm k = .next t) :
    (∃ m, s.rounding rm = some m ∧ k m = .next t) ∨ (s.rounding rm = none ∧ s.illegal i = .next t) := by
  unfold State.rounded at h
  split at h
  · next m hm => exact .inl ⟨m, hm, h⟩
  · next hm => exact .inr ⟨hm, h⟩

theorem State.rounded_of_some {s : State} {i : Instr} {rm : BitVec 3} {m : Rounding} (h : s.rounding rm = some m)
    (k : Rounding → Result) : s.rounded i rm k = k m := by simp only [State.rounded, h]

theorem State.rounded_of_none {s : State} {i : Instr} {rm : BitVec 3} (h : s.rounding rm = none)
    (k : Rounding → Result) : s.rounded i rm k = s.illegal i := by simp only [State.rounded, h]

/-! ### CSR instructions -/

theorem State.csrAccess_some {s : State} {n : BitVec 12} {w : Bool} {c : Csr} (h : s.csrAccess n w = some c) :
    Csr.ofNumber n = some c ∧ Params.hasCsr s.cfg c = true ∧ s.csrNumberCheck n w = true ∧ s.csrOwnCheck c = true := by
  unfold State.csrAccess at h
  split at h
  · cases h
  · next d hd =>
    split at h
    · next hc =>
      cases h
      simp only [Bool.and_eq_true] at hc
      exact ⟨hd, hc.1.1, hc.1.2, hc.2⟩
    · cases h

theorem State.csrOp_next {s t : State} {i : Instr} {rd : Reg} {n : BitVec 12} {w : Bool} {g : Word → Word}
    (h : s.csrOp i rd n w g = .next t) :
    (∃ c, s.csrAccess n w = some c ∧
      t = (let u := ((if w then s.csrWrite c (g (s.csrRead c)) else s).setX rd (s.csrRead c)).advance 4
           if w && c.isInstret then u else u.retire)) ∨
    (s.csrAccess n w = none ∧ s.illegal i = .next t) := by
  unfold State.csrOp at h
  split at h
  · next hn => exact .inr ⟨hn, h⟩
  · next c hc =>
    simp only [State.csrFinish] at h
    cases h
    exact .inl ⟨c, hc, rfl⟩

theorem State.csrOp_of_some {s : State} {n : BitVec 12} {w : Bool} {c : Csr} (h : s.csrAccess n w = some c) (i : Instr)
    (rd : Reg) (g : Word → Word) :
    s.csrOp i rd n w g =
      .next (let u := ((if w then s.csrWrite c (g (s.csrRead c)) else s).setX rd (s.csrRead c)).advance 4
             if w && c.isInstret then u else u.retire) := by
  simp only [State.csrOp, h, State.csrFinish]

/-! ### A step -/

theorem tickResult_next {r : Result} {t : State} (h : tickResult r = .next t) : ∃ u, r = .next u ∧ t = u.tick := by
  unfold tickResult at h
  split at h <;> cases h
  exact ⟨_, rfl, rfl⟩

/-- Everything a step with a next state did: it took an interrupt, or fetched an instruction and ran it, or the
fetch or the decoding raised an exception. -/
theorem step_next {s t : State} (h : step s = .next t) :
    ∃ u, t = u.tick ∧
      ((∃ c, s.sampleLines.interruptTaken = some c ∧ s.sampleLines.trap true c 0 = .next u) ∨
       (s.sampleLines.interruptTaken = none ∧
        ((s.sampleLines.fetch = .denied ∧
          s.sampleLines.raise .instructionAccessFault s.sampleLines.pc = .next u) ∨
         (∃ c i, s.sampleLines.fetch = .code c ∧ decode s.sampleLines.cfg.xlen c = .instr i ∧
          exec i s.sampleLines = .next u) ∨
         (∃ c r, s.sampleLines.fetch = .code c ∧ decode s.sampleLines.cfg.xlen c = .reject r ∧
          s.sampleLines.raise .illegalInstruction c.value = .next u)))) := by
  unfold step State.stepWith at h
  obtain ⟨u, hu, rfl⟩ := tickResult_next h
  refine ⟨u, rfl, ?_⟩
  split at hu
  · next c hc => exact .inl ⟨c, hc, hu⟩
  · next hn =>
    refine .inr ⟨hn, ?_⟩
    cases hf : s.sampleLines.fetch with
    | denied => rw [hf] at hu; exact .inl ⟨rfl, hu⟩
    | device a => rw [hf] at hu; cases hu
    | code c =>
      rw [hf] at hu
      simp only [State.runFetched] at hu
      cases hd : decode s.sampleLines.cfg.xlen c with
      | instr i => rw [hd] at hu; exact .inr (.inl ⟨c, i, rfl, hd, hu⟩)
      | reject r => rw [hd] at hu; exact .inr (.inr ⟨c, r, rfl, hd, hu⟩)

end Sys2Proof.Machine
end

