-- ==== Sys2Proof/Laws/Numbers.lean ====
section
/-!
SUPPORT. Sys2Proof/Laws/Numbers.lean: registers and immediates as numbers: when two values are the same modulo 2^XLEN,
and what the container of an XLEN-bit value holds.
-/
namespace Sys2Proof.Machine

open Sys2Proof

theorem State.width_cases (s : State) : (s.cfg.xlen = .rv32 ∧ s.width = 32) ∨ (s.cfg.xlen = .rv64 ∧ s.width = 64) := by
  cases h : s.cfg.xlen <;> simp [State.width, Xlen.bits, h]

theorem State.width_eq (s : State) : s.width = 32 ∨ s.width = 64 := by
  rcases s.width_cases with h | h
  · exact .inl h.2
  · exact .inr h.2

theorem State.norm_rv64 {s : State} (h : s.cfg.xlen = .rv64) (v : Word) : s.norm v = v := by
  simp only [State.norm, Params.norm, h]

theorem State.norm_rv32 {s : State} (h : s.cfg.xlen = .rv32) (v : Word) : s.norm v = (v.setWidth 32).setWidth 64 := by
  simp only [State.norm, Params.norm, h]

/-- Values that agree modulo 2^XLEN are the same value. -/
theorem State.norm_eq_iff (s : State) (v w : Word) :
    s.norm v = s.norm w ↔ v.toNat % 2 ^ s.width = w.toNat % 2 ^ s.width := by
  rw [← BitVec.toNat_inj, State.norm_toNat, State.norm_toNat]
  rfl

/-- Writing a register depends on the value modulo 2^XLEN. -/
theorem State.setX_congr {s : State} {v w : Word} (h : s.norm v = s.norm w) (i : Reg) : s.setX i v = s.setX i w := by
  simp only [State.setX, h]

theorem State.unsignedX_lt (s : State) (i : Reg) : s.unsignedX i < 2 ^ s.width := by
  rw [State.unsignedX, ← State.norm_getX]
  exact State.norm_toNat_lt s _

theorem State.word_toNat (s : State) (v : Int) : ((s.word v).toNat : Int) = v % 2 ^ s.width := by
  rcases s.width_cases with ⟨-, h⟩ | ⟨-, h⟩ <;> rw [State.word, h, BitVec.toNat_ofInt] <;> omega

theorem State.norm_word (s : State) (v : Int) : s.norm (s.word v) = s.word v := by
  rw [← BitVec.toNat_inj, State.norm_toNat]
  apply Nat.mod_eq_of_lt
  have := State.word_toNat s v
  change _ < 2 ^ s.width
  rcases s.width_eq with h | h <;> simp only [h] at this ⊢ <;> omega

/-- A value is the number v modulo 2^XLEN. -/
theorem State.norm_eq_word {s : State} {x : Word} {v : Int} (h : (x.toNat : Int) % 2 ^ s.width = v % 2 ^ s.width) :
    s.norm x = s.word v := by
  rw [← State.norm_word, State.norm_eq_iff]
  have := State.word_toNat s v
  rcases s.width_eq with hw | hw <;> simp only [hw] at h this ⊢ <;> omega

theorem State.norm_eq_norm_word {s : State} {x : Word} {v : Int}
    (h : (x.toNat : Int) % 2 ^ s.width = v % 2 ^ s.width) : s.norm x = s.norm (s.word v) := by
  rw [State.norm_word]; exact State.norm_eq_word h

/-- The two's-complement reading agrees with the container's own at XLEN = 64, and with its low half's at 32. -/
theorem twos_toInt {n : Nat} (h : 0 < n) (v : BitVec n) : twos n v.toNat = v.toInt := by
  rw [twos, BitVec.toInt_eq_toNat_cond]
  have : 2 ^ n = 2 * 2 ^ (n - 1) := by rw [← pow_succ']; congr 1; omega
  by_cases hc : v.toNat < 2 ^ (n - 1)
  · rw [if_pos hc, if_pos (by omega)]
  · rw [if_neg hc, if_neg (by omega)]; norm_cast

theorem State.signedX_rv64 {s : State} (h : s.cfg.xlen = .rv64) (i : Reg) : s.signedX i = (s.getX i).toInt := by
  rw [State.signedX, State.unsignedX, State.width, h]
  exact twos_toInt (by decide) _

theorem State.getX_toNat_lt_rv32 {s : State} (h : s.cfg.xlen = .rv32) (i : Reg) : (s.getX i).toNat < 2 ^ 32 := by
  have := s.unsignedX_lt i
  rwa [State.width, h] at this

theorem State.signedX_rv32 {s : State} (h : s.cfg.xlen = .rv32) (i : Reg) :
    s.signedX i = ((s.getX i).setWidth 32).toInt := by
  rw [State.signedX, State.unsignedX, State.width, h, ← twos_toInt (by decide), BitVec.toNat_setWidth,
    Nat.mod_eq_of_lt (State.getX_toNat_lt_rv32 h i)]
  rfl

theorem State.signedW_eq (s : State) (i : Reg) : s.signedW i = ((s.getX i).setWidth 32).toInt := by
  rw [State.signedW, State.unsignedW, State.unsignedX, ← twos_toInt (by decide), BitVec.toNat_setWidth]

theorem State.unsignedW_eq (s : State) (i : Reg) : s.unsignedW i = ((s.getX i).setWidth 32).toNat := by
  rw [State.unsignedW, State.unsignedX, BitVec.toNat_setWidth]

/-- A sign-extended immediate is its two's-complement reading modulo 2^XLEN. -/
theorem State.sext_eq_word {n : Nat} (s : State) (v : BitVec n) (h : n ≤ 64) : s.sext v = s.word v.toInt := by
  apply State.norm_eq_word
  have : (v.signExtend 64).toInt = v.toInt := BitVec.toInt_signExtend_of_le h
  have h2 : ((v.signExtend 64).toNat : Int) % 2 ^ 64 = v.toInt % 2 ^ 64 := by
    rw [← this, BitVec.toInt_eq_toNat_bmod]
    exact (Int.bmod_emod (m := 2 ^ 64)).symm
  rcases s.width_cases with ⟨-, hw⟩ | ⟨-, hw⟩ <;> rw [hw] <;> omega

theorem State.zext_eq_word {n : Nat} (s : State) (v : BitVec n) (h : n ≤ 64) : s.zext v = s.word v.toNat := by
  apply State.norm_eq_word
  rw [BitVec.toNat_setWidth, Nat.mod_eq_of_lt (lt_of_lt_of_le v.isLt (Nat.pow_le_pow_right (by decide) h))]

theorem State.ea_eq_address (s : State) (rs1 : Reg) {d : Word} {v : Int} (h : d = s.word v) :
    s.ea rs1 d = s.address rs1 v := by
  subst h
  apply State.norm_eq_word
  have := State.word_toNat s v
  rw [BitVec.toNat_add, State.unsignedX]
  rcases s.width_eq with hw | hw <;> simp only [hw] at this ⊢ <;> push_cast <;> omega

end Sys2Proof.Machine
end

