-- ==== Sys2Proof/Laws/PerInstr.lean ====
section
/-!
SUPPORT. Sys2Proof/Laws/PerInstr.lean: statements about every instruction, one lemma per constructor.

LengthBits (R120): bits 1:0 of the first parcel are 11 for a 32-bit encoding, and not for a 16-bit one.
-/
namespace Sys2Proof.Laws.LengthBits

open Sys2Proof

/-- Bits 1:0 of the encoding say its length (R120). -/
def Statement (i : Instr) : Prop :=
  match encode i with
  | .word w => bits w 0 2 = 0b11#2
  | .half h => bits h 0 2 ≠ 0b11#2

theorem of_word {i : Instr} {w : BitVec 32} {b : BitVec 2} (h : encode i = .word w) (hb : bits w 0 2 = b)
    (h3 : b = 0b11#2) : Statement i := by
  rw [Statement, h]; exact hb.trans h3

theorem of_half {i : Instr} {h : BitVec 16} {b : BitVec 2} (he : encode i = .half h) (hb : bits h 0 2 = b)
    (h3 : b ≠ 0b11#2) : Statement i := by
  rw [Statement, he]; exact fun e => h3 (hb.symm.trans e)

theorem add (rd rs1 rs2 : Reg) : Statement (.add rd rs1 rs2) :=
  of_word rfl (bits_word32_length ..) (by decide)
theorem addi (rd rs1 : Reg) (imm : BitVec 12) : Statement (.addi rd rs1 imm) :=
  of_word rfl (bits_word32_length ..) (by decide)
theorem addiw (rd rs1 : Reg) (imm : BitVec 12) : Statement (.addiw rd rs1 imm) :=
  of_word rfl (bits_word32_length ..) (by decide)
theorem addw (rd rs1 rs2 : Reg) : Statement (.addw rd rs1 rs2) :=
  of_word rfl (bits_word32_length ..) (by decide)
theorem and (rd rs1 rs2 : Reg) : Statement (.and rd rs1 rs2) :=
  of_word rfl (bits_word32_length ..) (by decide)
theorem andi (rd rs1 : Reg) (imm : BitVec 12) : Statement (.andi rd rs1 imm) :=
  of_word rfl (bits_word32_length ..) (by decide)
theorem auipc (rd : Reg) (imm : BitVec 20) : Statement (.auipc rd imm) :=
  of_word rfl (bits_word32_length ..) (by decide)
theorem lui (rd : Reg) (imm : BitVec 20) : Statement (.lui rd imm) :=
  of_word rfl (bits_word32_length ..) (by decide)
theorem or (rd rs1 rs2 : Reg) : Statement (.or rd rs1 rs2) :=
  of_word rfl (bits_word32_length ..) (by decide)
theorem ori (rd rs1 : Reg) (imm : BitVec 12) : Statement (.ori rd rs1 imm) :=
  of_word rfl (bits_word32_length ..) (by decide)
theorem sll (rd rs1 rs2 : Reg) : Statement (.sll rd rs1 rs2) :=
  of_word rfl (bits_word32_length ..) (by decide)
theorem slli (rd rs1 : Reg) (shamt : BitVec 6) : Statement (.slli rd rs1 shamt) :=
  of_word rfl (bits_word32_length ..) (by decide)
theorem slliw (rd rs1 : Reg) (shamt : BitVec 5) : Statement (.slliw rd rs1 shamt) :=
  of_word rfl (bits_word32_length ..) (by decide)
theorem sllw (rd rs1 rs2 : Reg) : Statement (.sllw rd rs1 rs2) :=
  of_word rfl (bits_word32_length ..) (by decide)
theorem slt (rd rs1 rs2 : Reg) : Statement (.slt rd rs1 rs2) :=
  of_word rfl (bits_word32_length ..) (by decide)
theorem slti (rd rs1 : Reg) (imm : BitVec 12) : Statement (.slti rd rs1 imm) :=
  of_word rfl (bits_word32_length ..) (by decide)
theorem sltiu (rd rs1 : Reg) (imm : BitVec 12) : Statement (.sltiu rd rs1 imm) :=
  of_word rfl (bits_word32_length ..) (by decide)
theorem sltu (rd rs1 rs2 : Reg) : Statement (.sltu rd rs1 rs2) :=
  of_word rfl (bits_word32_length ..) (by decide)
theorem sra (rd rs1 rs2 : Reg) : Statement (.sra rd rs1 rs2) :=
  of_word rfl (bits_word32_length ..) (by decide)
theorem srai (rd rs1 : Reg) (shamt : BitVec 6) : Statement (.srai rd rs1 shamt) :=
  of_word rfl (bits_word32_length ..) (by decide)
theorem sraiw (rd rs1 : Reg) (shamt : BitVec 5) : Statement (.sraiw rd rs1 shamt) :=
  of_word rfl (bits_word32_length ..) (by decide)
theorem sraw (rd rs1 rs2 : Reg) : Statement (.sraw rd rs1 rs2) :=
  of_word rfl (bits_word32_length ..) (by decide)
theorem srl (rd rs1 rs2 : Reg) : Statement (.srl rd rs1 rs2) :=
  of_word rfl (bits_word32_length ..) (by decide)
theorem srli (rd rs1 : Reg) (shamt : BitVec 6) : Statement (.srli rd rs1 shamt) :=
  of_word rfl (bits_word32_length ..) (by decide)
theorem srliw (rd rs1 : Reg) (shamt : BitVec 5) : Statement (.srliw rd rs1 shamt) :=
  of_word rfl (bits_word32_length ..) (by decide)
theorem srlw (rd rs1 rs2 : Reg) : Statement (.srlw rd rs1 rs2) :=
  of_word rfl (bits_word32_length ..) (by decide)
theorem sub (rd rs1 rs2 : Reg) : Statement (.sub rd rs1 rs2) :=
  of_word rfl (bits_word32_length ..) (by decide)
theorem subw (rd rs1 rs2 : Reg) : Statement (.subw rd rs1 rs2) :=
  of_word rfl (bits_word32_length ..) (by decide)
theorem xor (rd rs1 rs2 : Reg) : Statement (.xor rd rs1 rs2) :=
  of_word rfl (bits_word32_length ..) (by decide)
theorem xori (rd rs1 : Reg) (imm : BitVec 12) : Statement (.xori rd rs1 imm) :=
  of_word rfl (bits_word32_length ..) (by decide)
theorem beq (rs1 rs2 : Reg) (offset : BitVec 13) : Statement (.beq rs1 rs2 offset) :=
  of_word rfl (bits_word32_length ..) (by decide)
theorem bge (rs1 rs2 : Reg) (offset : BitVec 13) : Statement (.bge rs1 rs2 offset) :=
  of_word rfl (bits_word32_length ..) (by decide)
theorem bgeu (rs1 rs2 : Reg) (offset : BitVec 13) : Statement (.bgeu rs1 rs2 offset) :=
  of_word rfl (bits_word32_length ..) (by decide)
theorem blt (rs1 rs2 : Reg) (offset : BitVec 13) : Statement (.blt rs1 rs2 offset) :=
  of_word rfl (bits_word32_length ..) (by decide)
theorem bltu (rs1 rs2 : Reg) (offset : BitVec 13) : Statement (.bltu rs1 rs2 offset) :=
  of_word rfl (bits_word32_length ..) (by decide)
theorem bne (rs1 rs2 : Reg) (offset : BitVec 13) : Statement (.bne rs1 rs2 offset) :=
  of_word rfl (bits_word32_length ..) (by decide)
theorem jal (rd : Reg) (offset : BitVec 21) : Statement (.jal rd offset) :=
  of_word rfl (bits_word32_length ..) (by decide)
theorem jalr (rd rs1 : Reg) (offset : BitVec 12) : Statement (.jalr rd rs1 offset) :=
  of_word rfl (bits_word32_length ..) (by decide)
theorem fence (pred succ : BitVec 4) : Statement (.fence pred succ) :=
  of_word rfl (bits_word32_length ..) (by decide)
theorem fenceI : Statement (.fenceI) :=
  of_word rfl (bits_word32_length ..) (by decide)
theorem lb (rd rs1 : Reg) (offset : BitVec 12) : Statement (.lb rd rs1 offset) :=
  of_word rfl (bits_word32_length ..) (by decide)
theorem lbu (rd rs1 : Reg) (offset : BitVec 12) : Statement (.lbu rd rs1 offset) :=
  of_word rfl (bits_word32_length ..) (by decide)
theorem ld (rd rs1 : Reg) (offset : BitVec 12) : Statement (.ld rd rs1 offset) :=
  of_word rfl (bits_word32_length ..) (by decide)
theorem lh (rd rs1 : Reg) (offset : BitVec 12) : Statement (.lh rd rs1 offset) :=
  of_word rfl (bits_word32_length ..) (by decide)
theorem lhu (rd rs1 : Reg) (offset : BitVec 12) : Statement (.lhu rd rs1 offset) :=
  of_word rfl (bits_word32_length ..) (by decide)
theorem lw (rd rs1 : Reg) (offset : BitVec 12) : Statement (.lw rd rs1 offset) :=
  of_word rfl (bits_word32_length ..) (by decide)
theorem lwu (rd rs1 : Reg) (offset : BitVec 12) : Statement (.lwu rd rs1 offset) :=
  of_word rfl (bits_word32_length ..) (by decide)
theorem sb (rs2 rs1 : Reg) (offset : BitVec 12) : Statement (.sb rs2 rs1 offset) :=
  of_word rfl (bits_word32_length ..) (by decide)
theorem sd (rs2 rs1 : Reg) (offset : BitVec 12) : Statement (.sd rs2 rs1 offset) :=
  of_word rfl (bits_word32_length ..) (by decide)
theorem sh (rs2 rs1 : Reg) (offset : BitVec 12) : Statement (.sh rs2 rs1 offset) :=
  of_word rfl (bits_word32_length ..) (by decide)
theorem sw (rs2 rs1 : Reg) (offset : BitVec 12) : Statement (.sw rs2 rs1 offset) :=
  of_word rfl (bits_word32_length ..) (by decide)
theorem csrrc (rd : Reg) (csr : BitVec 12) (rs1 : Reg) : Statement (.csrrc rd csr rs1) :=
  of_word rfl (bits_word32_length ..) (by decide)
theorem csrrci (rd : Reg) (csr : BitVec 12) (zimm : BitVec 5) : Statement (.csrrci rd csr zimm) :=
  of_word rfl (bits_word32_length ..) (by decide)
theorem csrrs (rd : Reg) (csr : BitVec 12) (rs1 : Reg) : Statement (.csrrs rd csr rs1) :=
  of_word rfl (bits_word32_length ..) (by decide)
theorem csrrsi (rd : Reg) (csr : BitVec 12) (zimm : BitVec 5) : Statement (.csrrsi rd csr zimm) :=
  of_word rfl (bits_word32_length ..) (by decide)
theorem csrrw (rd : Reg) (csr : BitVec 12) (rs1 : Reg) : Statement (.csrrw rd csr rs1) :=
  of_word rfl (bits_word32_length ..) (by decide)
theorem csrrwi (rd : Reg) (csr : BitVec 12) (zimm : BitVec 5) : Statement (.csrrwi rd csr zimm) :=
  of_word rfl (bits_word32_length ..) (by decide)
theorem ebreak : Statement (.ebreak) :=
  of_word rfl (bits_word32_length ..) (by decide)
theorem ecall : Statement (.ecall) :=
  of_word rfl (bits_word32_length ..) (by decide)
theorem mret : Statement (.mret) :=
  of_word rfl (bits_word32_length ..) (by decide)
theorem sfenceVma (rs1 rs2 : Reg) : Statement (.sfenceVma rs1 rs2) :=
  of_word rfl (bits_word32_length ..) (by decide)
theorem sret : Statement (.sret) :=
  of_word rfl (bits_word32_length ..) (by decide)
theorem wfi : Statement (.wfi) :=
  of_word rfl (bits_word32_length ..) (by decide)
theorem div (rd rs1 rs2 : Reg) : Statement (.div rd rs1 rs2) :=
  of_word rfl (bits_word32_length ..) (by decide)
theorem divu (rd rs1 rs2 : Reg) : Statement (.divu rd rs1 rs2) :=
  of_word rfl (bits_word32_length ..) (by decide)
theorem divuw (rd rs1 rs2 : Reg) : Statement (.divuw rd rs1 rs2) :=
  of_word rfl (bits_word32_length ..) (by decide)
theorem divw (rd rs1 rs2 : Reg) : Statement (.divw rd rs1 rs2) :=
  of_word rfl (bits_word32_length ..) (by decide)
theorem mul (rd rs1 rs2 : Reg) : Statement (.mul rd rs1 rs2) :=
  of_word rfl (bits_word32_length ..) (by decide)
theorem mulh (rd rs1 rs2 : Reg) : Statement (.mulh rd rs1 rs2) :=
  of_word rfl (bits_word32_length ..) (by decide)
theorem mulhsu (rd rs1 rs2 : Reg) : Statement (.mulhsu rd rs1 rs2) :=
  of_word rfl (bits_word32_length ..) (by decide)
theorem mulhu (rd rs1 rs2 : Reg) : Statement (.mulhu rd rs1 rs2) :=
  of_word rfl (bits_word32_length ..) (by decide)
theorem mulw (rd rs1 rs2 : Reg) : Statement (.mulw rd rs1 rs2) :=
  of_word rfl (bits_word32_length ..) (by decide)
theorem rem (rd rs1 rs2 : Reg) : Statement (.rem rd rs1 rs2) :=
  of_word rfl (bits_word32_length ..) (by decide)
theorem remu (rd rs1 rs2 : Reg) : Statement (.remu rd rs1 rs2) :=
  of_word rfl (bits_word32_length ..) (by decide)
theorem remuw (rd rs1 rs2 : Reg) : Statement (.remuw rd rs1 rs2) :=
  of_word rfl (bits_word32_length ..) (by decide)
theorem remw (rd rs1 rs2 : Reg) : Statement (.remw rd rs1 rs2) :=
  of_word rfl (bits_word32_length ..) (by decide)
theorem amoaddD (aq rl : Bool) (rd rs1 rs2 : Reg) : Statement (.amoaddD aq rl rd rs1 rs2) :=
  of_word rfl (bits_word32_length ..) (by decide)
theorem amoaddW (aq rl : Bool) (rd rs1 rs2 : Reg) : Statement (.amoaddW aq rl rd rs1 rs2) :=
  of_word rfl (bits_word32_length ..) (by decide)
theorem amoandD (aq rl : Bool) (rd rs1 rs2 : Reg) : Statement (.amoandD aq rl rd rs1 rs2) :=
  of_word rfl (bits_word32_length ..) (by decide)
theorem amoandW (aq rl : Bool) (rd rs1 rs2 : Reg) : Statement (.amoandW aq rl rd rs1 rs2) :=
  of_word rfl (bits_word32_length ..) (by decide)
theorem amomaxD (aq rl : Bool) (rd rs1 rs2 : Reg) : Statement (.amomaxD aq rl rd rs1 rs2) :=
  of_word rfl (bits_word32_length ..) (by decide)
theorem amomaxW (aq rl : Bool) (rd rs1 rs2 : Reg) : Statement (.amomaxW aq rl rd rs1 rs2) :=
  of_word rfl (bits_word32_length ..) (by decide)
theorem amomaxuD (aq rl : Bool) (rd rs1 rs2 : Reg) : Statement (.amomaxuD aq rl rd rs1 rs2) :=
  of_word rfl (bits_word32_length ..) (by decide)
theorem amomaxuW (aq rl : Bool) (rd rs1 rs2 : Reg) : Statement (.amomaxuW aq rl rd rs1 rs2) :=
  of_word rfl (bits_word32_length ..) (by decide)
theorem amominD (aq rl : Bool) (rd rs1 rs2 : Reg) : Statement (.amominD aq rl rd rs1 rs2) :=
  of_word rfl (bits_word32_length ..) (by decide)
theorem amominW (aq rl : Bool) (rd rs1 rs2 : Reg) : Statement (.amominW aq rl rd rs1 rs2) :=
  of_word rfl (bits_word32_length ..) (by decide)
theorem amominuD (aq rl : Bool) (rd rs1 rs2 : Reg) : Statement (.amominuD aq rl rd rs1 rs2) :=
  of_word rfl (bits_word32_length ..) (by decide)
theorem amominuW (aq rl : Bool) (rd rs1 rs2 : Reg) : Statement (.amominuW aq rl rd rs1 rs2) :=
  of_word rfl (bits_word32_length ..) (by decide)
theorem amoorD (aq rl : Bool) (rd rs1 rs2 : Reg) : Statement (.amoorD aq rl rd rs1 rs2) :=
  of_word rfl (bits_word32_length ..) (by decide)
theorem amoorW (aq rl : Bool) (rd rs1 rs2 : Reg) : Statement (.amoorW aq rl rd rs1 rs2) :=
  of_word rfl (bits_word32_length ..) (by decide)
theorem amoswapD (aq rl : Bool) (rd rs1 rs2 : Reg) : Statement (.amoswapD aq rl rd rs1 rs2) :=
  of_word rfl (bits_word32_length ..) (by decide)
theorem amoswapW (aq rl : Bool) (rd rs1 rs2 : Reg) : Statement (.amoswapW aq rl rd rs1 rs2) :=
  of_word rfl (bits_word32_length ..) (by decide)
theorem amoxorD (aq rl : Bool) (rd rs1 rs2 : Reg) : Statement (.amoxorD aq rl rd rs1 rs2) :=
  of_word rfl (bits_word32_length ..) (by decide)
theorem amoxorW (aq rl : Bool) (rd rs1 rs2 : Reg) : Statement (.amoxorW aq rl rd rs1 rs2) :=
  of_word rfl (bits_word32_length ..) (by decide)
theorem lrD (aq rl : Bool) (rd rs1 : Reg) : Statement (.lrD aq rl rd rs1) :=
  of_word rfl (bits_word32_length ..) (by decide)
theorem lrW (aq rl : Bool) (rd rs1 : Reg) : Statement (.lrW aq rl rd rs1) :=
  of_word rfl (bits_word32_length ..) (by decide)
theorem scD (aq rl : Bool) (rd rs1 rs2 : Reg) : Statement (.scD aq rl rd rs1 rs2) :=
  of_word rfl (bits_word32_length ..) (by decide)
theorem scW (aq rl : Bool) (rd rs1 rs2 : Reg) : Statement (.scW aq rl rd rs1 rs2) :=
  of_word rfl (bits_word32_length ..) (by decide)
theorem faddS (rm : BitVec 3) (rd rs1 rs2 : FReg) : Statement (.faddS rm rd rs1 rs2) :=
  of_word rfl (bits_word32_length ..) (by decide)
theorem fclassS (rd : Reg) (rs1 : FReg) : Statement (.fclassS rd rs1) :=
  of_word rfl (bits_word32_length ..) (by decide)
theorem fcvtLS (rm : BitVec 3) (rd : Reg) (rs1 : FReg) : Statement (.fcvtLS rm rd rs1) :=
  of_word rfl (bits_word32_length ..) (by decide)
theorem fcvtLuS (rm : BitVec 3) (rd : Reg) (rs1 : FReg) : Statement (.fcvtLuS rm rd rs1) :=
  of_word rfl (bits_word32_length ..) (by decide)
theorem fcvtSL (rm : BitVec 3) (rd : FReg) (rs1 : Reg) : Statement (.fcvtSL rm rd rs1) :=
  of_word rfl (bits_word32_length ..) (by decide)
theorem fcvtSLu (rm : BitVec 3) (rd : FReg) (rs1 : Reg) : Statement (.fcvtSLu rm rd rs1) :=
  of_word rfl (bits_word32_length ..) (by decide)
theorem fcvtSW (rm : BitVec 3) (rd : FReg) (rs1 : Reg) : Statement (.fcvtSW rm rd rs1) :=
  of_word rfl (bits_word32_length ..) (by decide)
theorem fcvtSWu (rm : BitVec 3) (rd : FReg) (rs1 : Reg) : Statement (.fcvtSWu rm rd rs1) :=
  of_word rfl (bits_word32_length ..) (by decide)
theorem fcvtWS (rm : BitVec 3) (rd : Reg) (rs1 : FReg) : Statement (.fcvtWS rm rd rs1) :=
  of_word rfl (bits_word32_length ..) (by decide)
theorem fcvtWuS (rm : BitVec 3) (rd : Reg) (rs1 : FReg) : Statement (.fcvtWuS rm rd rs1) :=
  of_word rfl (bits_word32_length ..) (by decide)
theorem fdivS (rm : BitVec 3) (rd rs1 rs2 : FReg) : Statement (.fdivS rm rd rs1 rs2) :=
  of_word rfl (bits_word32_length ..) (by decide)
theorem feqS (rd : Reg) (rs1 rs2 : FReg) : Statement (.feqS rd rs1 rs2) :=
  of_word rfl (bits_word32_length ..) (by decide)
theorem fleS (rd : Reg) (rs1 rs2 : FReg) : Statement (.fleS rd rs1 rs2) :=
  of_word rfl (bits_word32_length ..) (by decide)
theorem fltS (rd : Reg) (rs1 rs2 : FReg) : Statement (.fltS rd rs1 rs2) :=
  of_word rfl (bits_word32_length ..) (by decide)
theorem flw (rd : FReg) (rs1 : Reg) (offset : BitVec 12) : Statement (.flw rd rs1 offset) :=
  of_word rfl (bits_word32_length ..) (by decide)
theorem fmaddS (rm : BitVec 3) (rd rs1 rs2 rs3 : FReg) : Statement (.fmaddS rm rd rs1 rs2 rs3) :=
  of_word rfl (bits_word32_length ..) (by decide)
theorem fmaxS (rd rs1 rs2 : FReg) : Statement (.fmaxS rd rs1 rs2) :=
  of_word rfl (bits_word32_length ..) (by decide)
theorem fminS (rd rs1 rs2 : FReg) : Statement (.fminS rd rs1 rs2) :=
  of_word rfl (bits_word32_length ..) (by decide)
theorem fmsubS (rm : BitVec 3) (rd rs1 rs2 rs3 : FReg) : Statement (.fmsubS rm rd rs1 rs2 rs3) :=
  of_word rfl (bits_word32_length ..) (by decide)
theorem fmulS (rm : BitVec 3) (rd rs1 rs2 : FReg) : Statement (.fmulS rm rd rs1 rs2) :=
  of_word rfl (bits_word32_length ..) (by decide)
theorem fmvWX (rd : FReg) (rs1 : Reg) : Statement (.fmvWX rd rs1) :=
  of_word rfl (bits_word32_length ..) (by decide)
theorem fmvXW (rd : Reg) (rs1 : FReg) : Statement (.fmvXW rd rs1) :=
  of_word rfl (bits_word32_length ..) (by decide)
theorem fnmaddS (rm : BitVec 3) (rd rs1 rs2 rs3 : FReg) : Statement (.fnmaddS rm rd rs1 rs2 rs3) :=
  of_word rfl (bits_word32_length ..) (by decide)
theorem fnmsubS (rm : BitVec 3) (rd rs1 rs2 rs3 : FReg) : Statement (.fnmsubS rm rd rs1 rs2 rs3) :=
  of_word rfl (bits_word32_length ..) (by decide)
theorem fsgnjS (rd rs1 rs2 : FReg) : Statement (.fsgnjS rd rs1 rs2) :=
  of_word rfl (bits_word32_length ..) (by decide)
theorem fsgnjnS (rd rs1 rs2 : FReg) : Statement (.fsgnjnS rd rs1 rs2) :=
  of_word rfl (bits_word32_length ..) (by decide)
theorem fsgnjxS (rd rs1 rs2 : FReg) : Statement (.fsgnjxS rd rs1 rs2) :=
  of_word rfl (bits_word32_length ..) (by decide)
theorem fsqrtS (rm : BitVec 3) (rd rs1 : FReg) : Statement (.fsqrtS rm rd rs1) :=
  of_word rfl (bits_word32_length ..) (by decide)
theorem fsubS (rm : BitVec 3) (rd rs1 rs2 : FReg) : Statement (.fsubS rm rd rs1 rs2) :=
  of_word rfl (bits_word32_length ..) (by decide)
theorem fsw (rs2 : FReg) (rs1 : Reg) (offset : BitVec 12) : Statement (.fsw rs2 rs1 offset) :=
  of_word rfl (bits_word32_length ..) (by decide)
theorem faddD (rm : BitVec 3) (rd rs1 rs2 : FReg) : Statement (.faddD rm rd rs1 rs2) :=
  of_word rfl (bits_word32_length ..) (by decide)
theorem fclassD (rd : Reg) (rs1 : FReg) : Statement (.fclassD rd rs1) :=
  of_word rfl (bits_word32_length ..) (by decide)
theorem fcvtDL (rm : BitVec 3) (rd : FReg) (rs1 : Reg) : Statement (.fcvtDL rm rd rs1) :=
  of_word rfl (bits_word32_length ..) (by decide)
theorem fcvtDLu (rm : BitVec 3) (rd : FReg) (rs1 : Reg) : Statement (.fcvtDLu rm rd rs1) :=
  of_word rfl (bits_word32_length ..) (by decide)
theorem fcvtDS (rm : BitVec 3) (rd rs1 : FReg) : Statement (.fcvtDS rm rd rs1) :=
  of_word rfl (bits_word32_length ..) (by decide)
theorem fcvtDW (rm : BitVec 3) (rd : FReg) (rs1 : Reg) : Statement (.fcvtDW rm rd rs1) :=
  of_word rfl (bits_word32_length ..) (by decide)
theorem fcvtDWu (rm : BitVec 3) (rd : FReg) (rs1 : Reg) : Statement (.fcvtDWu rm rd rs1) :=
  of_word rfl (bits_word32_length ..) (by decide)
theorem fcvtLD (rm : BitVec 3) (rd : Reg) (rs1 : FReg) : Statement (.fcvtLD rm rd rs1) :=
  of_word rfl (bits_word32_length ..) (by decide)
theorem fcvtLuD (rm : BitVec 3) (rd : Reg) (rs1 : FReg) : Statement (.fcvtLuD rm rd rs1) :=
  of_word rfl (bits_word32_length ..) (by decide)
theorem fcvtSD (rm : BitVec 3) (rd rs1 : FReg) : Statement (.fcvtSD rm rd rs1) :=
  of_word rfl (bits_word32_length ..) (by decide)
theorem fcvtWD (rm : BitVec 3) (rd : Reg) (rs1 : FReg) : Statement (.fcvtWD rm rd rs1) :=
  of_word rfl (bits_word32_length ..) (by decide)
theorem fcvtWuD (rm : BitVec 3) (rd : Reg) (rs1 : FReg) : Statement (.fcvtWuD rm rd rs1) :=
  of_word rfl (bits_word32_length ..) (by decide)
theorem fdivD (rm : BitVec 3) (rd rs1 rs2 : FReg) : Statement (.fdivD rm rd rs1 rs2) :=
  of_word rfl (bits_word32_length ..) (by decide)
theorem feqD (rd : Reg) (rs1 rs2 : FReg) : Statement (.feqD rd rs1 rs2) :=
  of_word rfl (bits_word32_length ..) (by decide)
theorem fld (rd : FReg) (rs1 : Reg) (offset : BitVec 12) : Statement (.fld rd rs1 offset) :=
  of_word rfl (bits_word32_length ..) (by decide)
theorem fleD (rd : Reg) (rs1 rs2 : FReg) : Statement (.fleD rd rs1 rs2) :=
  of_word rfl (bits_word32_length ..) (by decide)
theorem fltD (rd : Reg) (rs1 rs2 : FReg) : Statement (.fltD rd rs1 rs2) :=
  of_word rfl (bits_word32_length ..) (by decide)
theorem fmaddD (rm : BitVec 3) (rd rs1 rs2 rs3 : FReg) : Statement (.fmaddD rm rd rs1 rs2 rs3) :=
  of_word rfl (bits_word32_length ..) (by decide)
theorem fmaxD (rd rs1 rs2 : FReg) : Statement (.fmaxD rd rs1 rs2) :=
  of_word rfl (bits_word32_length ..) (by decide)
theorem fminD (rd rs1 rs2 : FReg) : Statement (.fminD rd rs1 rs2) :=
  of_word rfl (bits_word32_length ..) (by decide)
theorem fmsubD (rm : BitVec 3) (rd rs1 rs2 rs3 : FReg) : Statement (.fmsubD rm rd rs1 rs2 rs3) :=
  of_word rfl (bits_word32_length ..) (by decide)
theorem fmulD (rm : BitVec 3) (rd rs1 rs2 : FReg) : Statement (.fmulD rm rd rs1 rs2) :=
  of_word rfl (bits_word32_length ..) (by decide)
theorem fmvDX (rd : FReg) (rs1 : Reg) : Statement (.fmvDX rd rs1) :=
  of_word rfl (bits_word32_length ..) (by decide)
theorem fmvXD (rd : Reg) (rs1 : FReg) : Statement (.fmvXD rd rs1) :=
  of_word rfl (bits_word32_length ..) (by decide)
theorem fnmaddD (rm : BitVec 3) (rd rs1 rs2 rs3 : FReg) : Statement (.fnmaddD rm rd rs1 rs2 rs3) :=
  of_word rfl (bits_word32_length ..) (by decide)
theorem fnmsubD (rm : BitVec 3) (rd rs1 rs2 rs3 : FReg) : Statement (.fnmsubD rm rd rs1 rs2 rs3) :=
  of_word rfl (bits_word32_length ..) (by decide)
theorem fsd (rs2 : FReg) (rs1 : Reg) (offset : BitVec 12) : Statement (.fsd rs2 rs1 offset) :=
  of_word rfl (bits_word32_length ..) (by decide)
theorem fsgnjD (rd rs1 rs2 : FReg) : Statement (.fsgnjD rd rs1 rs2) :=
  of_word rfl (bits_word32_length ..) (by decide)
theorem fsgnjnD (rd rs1 rs2 : FReg) : Statement (.fsgnjnD rd rs1 rs2) :=
  of_word rfl (bits_word32_length ..) (by decide)
theorem fsgnjxD (rd rs1 rs2 : FReg) : Statement (.fsgnjxD rd rs1 rs2) :=
  of_word rfl (bits_word32_length ..) (by decide)
theorem fsqrtD (rm : BitVec 3) (rd rs1 : FReg) : Statement (.fsqrtD rm rd rs1) :=
  of_word rfl (bits_word32_length ..) (by decide)
theorem fsubD (rm : BitVec 3) (rd rs1 rs2 : FReg) : Statement (.fsubD rm rd rs1 rs2) :=
  of_word rfl (bits_word32_length ..) (by decide)
theorem cAdd (rd rs2 : Reg) : Statement (.cAdd rd rs2) :=
  of_half rfl (bits_half16_q ..) (by decide)
theorem cAddi (rd : Reg) (imm : BitVec 6) : Statement (.cAddi rd imm) :=
  of_half rfl (bits_half16_q ..) (by decide)
theorem cAddi16sp (imm : BitVec 10) : Statement (.cAddi16sp imm) :=
  of_half rfl (bits_half16_q ..) (by decide)
theorem cAddi4spn (rd : CReg) (uimm : BitVec 10) : Statement (.cAddi4spn rd uimm) :=
  of_half rfl (bits_half16_q ..) (by decide)
theorem cAddiw (rd : Reg) (imm : BitVec 6) : Statement (.cAddiw rd imm) :=
  of_half rfl (bits_half16_q ..) (by decide)
theorem cAddw (rd rs2 : CReg) : Statement (.cAddw rd rs2) :=
  of_half rfl (bits_half16_q ..) (by decide)
theorem cAnd (rd rs2 : CReg) : Statement (.cAnd rd rs2) :=
  of_half rfl (bits_half16_q ..) (by decide)
theorem cAndi (rd : CReg) (imm : BitVec 6) : Statement (.cAndi rd imm) :=
  of_half rfl (bits_half16_q ..) (by decide)
theorem cBeqz (rs1 : CReg) (offset : BitVec 9) : Statement (.cBeqz rs1 offset) :=
  of_half rfl (bits_half16_q ..) (by decide)
theorem cBnez (rs1 : CReg) (offset : BitVec 9) : Statement (.cBnez rs1 offset) :=
  of_half rfl (bits_half16_q ..) (by decide)
theorem cEbreak : Statement (.cEbreak) :=
  of_half rfl (bits_half16_q ..) (by decide)
theorem cFld (rd rs1 : CReg) (uimm : BitVec 8) : Statement (.cFld rd rs1 uimm) :=
  of_half rfl (bits_half16_q ..) (by decide)
theorem cFldsp (rd : FReg) (uimm : BitVec 9) : Statement (.cFldsp rd uimm) :=
  of_half rfl (bits_half16_q ..) (by decide)
theorem cFlw (rd rs1 : CReg) (uimm : BitVec 7) : Statement (.cFlw rd rs1 uimm) :=
  of_half rfl (bits_half16_q ..) (by decide)
theorem cFlwsp (rd : FReg) (uimm : BitVec 8) : Statement (.cFlwsp rd uimm) :=
  of_half rfl (bits_half16_q ..) (by decide)
theorem cFsd (rs2 rs1 : CReg) (uimm : BitVec 8) : Statement (.cFsd rs2 rs1 uimm) :=
  of_half rfl (bits_half16_q ..) (by decide)
theorem cFsdsp (rs2 : FReg) (uimm : BitVec 9) : Statement (.cFsdsp rs2 uimm) :=
  of_half rfl (bits_half16_q ..) (by decide)
theorem cFsw (rs2 rs1 : CReg) (uimm : BitVec 7) : Statement (.cFsw rs2 rs1 uimm) :=
  of_half rfl (bits_half16_q ..) (by decide)
theorem cFswsp (rs2 : FReg) (uimm : BitVec 8) : Statement (.cFswsp rs2 uimm) :=
  of_half rfl (bits_half16_q ..) (by decide)
theorem cJ (offset : BitVec 12) : Statement (.cJ offset) :=
  of_half rfl (bits_half16_q ..) (by decide)
theorem cJal (offset : BitVec 12) : Statement (.cJal offset) :=
  of_half rfl (bits_half16_q ..) (by decide)
theorem cJalr (rs1 : Reg) : Statement (.cJalr rs1) :=
  of_half rfl (bits_half16_q ..) (by decide)
theorem cJr (rs1 : Reg) : Statement (.cJr rs1) :=
  of_half rfl (bits_half16_q ..) (by decide)
theorem cLd (rd rs1 : CReg) (uimm : BitVec 8) : Statement (.cLd rd rs1 uimm) :=
  of_half rfl (bits_half16_q ..) (by decide)
theorem cLdsp (rd : Reg) (uimm : BitVec 9) : Statement (.cLdsp rd uimm) :=
  of_half rfl (bits_half16_q ..) (by decide)
theorem cLi (rd : Reg) (imm : BitVec 6) : Statement (.cLi rd imm) :=
  of_half rfl (bits_half16_q ..) (by decide)
theorem cLui (rd : Reg) (imm : BitVec 6) : Statement (.cLui rd imm) :=
  of_half rfl (bits_half16_q ..) (by decide)
theorem cLw (rd rs1 : CReg) (uimm : BitVec 7) : Statement (.cLw rd rs1 uimm) :=
  of_half rfl (bits_half16_q ..) (by decide)
theorem cLwsp (rd : Reg) (uimm : BitVec 8) : Statement (.cLwsp rd uimm) :=
  of_half rfl (bits_half16_q ..) (by decide)
theorem cMv (rd rs2 : Reg) : Statement (.cMv rd rs2) :=
  of_half rfl (bits_half16_q ..) (by decide)
theorem cOr (rd rs2 : CReg) : Statement (.cOr rd rs2) :=
  of_half rfl (bits_half16_q ..) (by decide)
theorem cSd (rs2 rs1 : CReg) (uimm : BitVec 8) : Statement (.cSd rs2 rs1 uimm) :=
  of_half rfl (bits_half16_q ..) (by decide)
theorem cSdsp (rs2 : Reg) (uimm : BitVec 9) : Statement (.cSdsp rs2 uimm) :=
  of_half rfl (bits_half16_q ..) (by decide)
theorem cSlli (rd : Reg) (shamt : BitVec 6) : Statement (.cSlli rd shamt) :=
  of_half rfl (bits_half16_q ..) (by decide)
theorem cSrai (rd : CReg) (shamt : BitVec 6) : Statement (.cSrai rd shamt) :=
  of_half rfl (bits_half16_q ..) (by decide)
theorem cSrli (rd : CReg) (shamt : BitVec 6) : Statement (.cSrli rd shamt) :=
  of_half rfl (bits_half16_q ..) (by decide)
theorem cSub (rd rs2 : CReg) : Statement (.cSub rd rs2) :=
  of_half rfl (bits_half16_q ..) (by decide)
theorem cSubw (rd rs2 : CReg) : Statement (.cSubw rd rs2) :=
  of_half rfl (bits_half16_q ..) (by decide)
theorem cSw (rs2 rs1 : CReg) (uimm : BitVec 7) : Statement (.cSw rs2 rs1 uimm) :=
  of_half rfl (bits_half16_q ..) (by decide)
theorem cSwsp (rs2 : Reg) (uimm : BitVec 8) : Statement (.cSwsp rs2 uimm) :=
  of_half rfl (bits_half16_q ..) (by decide)
theorem cXor (rd rs2 : CReg) : Statement (.cXor rd rs2) :=
  of_half rfl (bits_half16_q ..) (by decide)

end Sys2Proof.Laws.LengthBits
end

