-- ==== Sys2Proof/Machine/Pseudo.lean ====
section
/-!
DEFINITION. Sys2Proof/Machine/Pseudo.lean: the pseudo-instructions (49_pseudo.md) and their expansions.

A pseudo-instruction is assembler text: it has no encoding, and a decoder never sees it. `distance` is the distance from
the first instruction of a pair to the symbol, modulo 2^32 (R562 c).
-/
namespace Sys2Proof.Machine

open Sys2Proof

/-- The upper part of a distance, rounded for the sign of the lower one (R562 c). -/
def offsetHi (distance : BitVec 32) : BitVec 20 := bits (distance + 0x800#32) 12 20

/-- The lower part of a distance (R562 c). -/
def offsetLo (distance : BitVec 32) : BitVec 12 := bits distance 0 12

/-- The 53 pseudo-instructions; la has the two forms of R602. -/
inductive Pseudo where
  /-- R570. -/
  | beqz (rs1 : Reg) (offset : BitVec 13)
  /-- R571. -/
  | bgez (rs1 : Reg) (offset : BitVec 13)
  /-- R572. -/
  | bgt (rs1 rs2 : Reg) (offset : BitVec 13)
  /-- R573. -/
  | bgtu (rs1 rs2 : Reg) (offset : BitVec 13)
  /-- R574. -/
  | bgtz (rs2 : Reg) (offset : BitVec 13)
  /-- R575. -/
  | ble (rs1 rs2 : Reg) (offset : BitVec 13)
  /-- R576. -/
  | bleu (rs1 rs2 : Reg) (offset : BitVec 13)
  /-- R577. -/
  | blez (rs2 : Reg) (offset : BitVec 13)
  /-- R578. -/
  | bltz (rs1 : Reg) (offset : BitVec 13)
  /-- R579. -/
  | bnez (rs1 : Reg) (offset : BitVec 13)
  /-- R580. -/
  | call (rd : Reg) (distance : BitVec 32)
  /-- R581. -/
  | csrc (csr : BitVec 12) (rs1 : Reg)
  /-- R582. -/
  | csrci (csr : BitVec 12) (zimm : BitVec 5)
  /-- R583. -/
  | csrr (rd : Reg) (csr : BitVec 12)
  /-- R584. -/
  | csrs (csr : BitVec 12) (rs1 : Reg)
  /-- R585. -/
  | csrsi (csr : BitVec 12) (zimm : BitVec 5)
  /-- R586. -/
  | csrw (csr : BitVec 12) (rs1 : Reg)
  /-- R587. -/
  | csrwi (csr : BitVec 12) (zimm : BitVec 5)
  /-- R588. -/
  | fabsD (rd rs1 : FReg)
  /-- R589. -/
  | fabsS (rd rs1 : FReg)
  /-- R590. -/
  | fmvD (rd rs1 : FReg)
  /-- R591. -/
  | fmvS (rd rs1 : FReg)
  /-- R592. -/
  | fnegD (rd rs1 : FReg)
  /-- R593. -/
  | fnegS (rd rs1 : FReg)
  /-- R594. -/
  | frcsr (rd : Reg)
  /-- R595. -/
  | frflags (rd : Reg)
  /-- R596. -/
  | frrm (rd : Reg)
  /-- R597. -/
  | fscsr (rd rs1 : Reg)
  /-- R598. -/
  | fsflags (rd rs1 : Reg)
  /-- R599. -/
  | fsrm (rd rs1 : Reg)
  /-- R600. -/
  | j (offset : BitVec 21)
  /-- R601. -/
  | jr (rs1 : Reg)
  /-- R602. -/
  | la (rd : Reg) (distance : BitVec 32)
  /-- R602. -/
  | laGot (rd : Reg) (distance : BitVec 32)
  /-- R603. -/
  | li (rd : Reg) (value : Word)
  /-- R604. -/
  | lla (rd : Reg) (distance : BitVec 32)
  /-- R605. -/
  | mv (rd rs1 : Reg)
  /-- R606. -/
  | neg (rd rs2 : Reg)
  /-- R607. -/
  | negw (rd rs2 : Reg)
  /-- R608. -/
  | nop
  /-- R609. -/
  | not (rd rs1 : Reg)
  /-- R610. -/
  | rdcycle (rd : Reg)
  /-- R611. -/
  | rdcycleh (rd : Reg)
  /-- R612. -/
  | rdinstret (rd : Reg)
  /-- R613. -/
  | rdinstreth (rd : Reg)
  /-- R614. -/
  | rdtime (rd : Reg)
  /-- R615. -/
  | rdtimeh (rd : Reg)
  /-- R616. -/
  | ret
  /-- R617. -/
  | seqz (rd rs1 : Reg)
  /-- R618. -/
  | sextW (rd rs1 : Reg)
  /-- R619. -/
  | sgtz (rd rs2 : Reg)
  /-- R620. -/
  | sltz (rd rs1 : Reg)
  /-- R621. -/
  | snez (rd rs2 : Reg)
  /-- R622. -/
  | tail (distance : BitVec 32)
deriving DecidableEq, Repr

/-- A constant of 32 bits (R603): addi alone, or lui and, when the low part is not 0, addi. -/
def li32 (rd : Reg) (c : BitVec 32) : List Instr :=
  let lo := offsetLo c
  if lo.signExtend 32 = c then [.addi rd 0 lo]
  else .lui rd (offsetHi c) :: (if lo = 0 then [] else [.addi rd rd lo])

/-- A constant of 64 bits by the longest sequence of R603: the upper part, then 12, 12 and 8 bits (log 35). -/
def li64 (rd : Reg) (c : Word) : List Instr :=
  let low := bits c 0 8
  let mid := bits c 8 12
  let above := (c >>> 8 - mid.signExtend 64) >>> 12
  let high := bits above 0 12
  let top := bits (above - high.signExtend 64) 12 32
  [.lui rd (offsetHi top), .addi rd rd (offsetLo top), .slli rd rd 12, .addi rd rd high,
   .slli rd rd 12, .addi rd rd mid, .slli rd rd 8, .addi rd rd (low.setWidth 12)]

/-- Does lui and addi give the constant on XLEN = 64 (R603)? -/
def liShort (c : Word) : Bool :=
  (bits c 0 32).signExtend 64 == c && (offsetHi (bits c 0 32) ++ 0#12).signExtend 64 + (offsetLo (bits c 0 32)).signExtend 64 == c

/-- A constant of XLEN bits (R603). -/
def liWord (xl : Xlen) (rd : Reg) (c : Word) : List Instr :=
  match xl with
  | .rv32 => li32 rd (bits c 0 32)
  | .rv64 => if liShort c || (offsetLo (bits c 0 32)).signExtend 64 == c then li32 rd (bits c 0 32) else li64 rd c

/-- The real instructions a pseudo-instruction stands for. -/
def Pseudo.expand (xl : Xlen) : Pseudo → List Instr
  | .beqz rs1 offset => [.beq rs1 0 offset]
  | .bgez rs1 offset => [.bge rs1 0 offset]
  | .bgt rs1 rs2 offset => [.blt rs2 rs1 offset]
  | .bgtu rs1 rs2 offset => [.bltu rs2 rs1 offset]
  | .bgtz rs2 offset => [.blt 0 rs2 offset]
  | .ble rs1 rs2 offset => [.bge rs2 rs1 offset]
  | .bleu rs1 rs2 offset => [.bgeu rs2 rs1 offset]
  | .blez rs2 offset => [.bge 0 rs2 offset]
  | .bltz rs1 offset => [.blt rs1 0 offset]
  | .bnez rs1 offset => [.bne rs1 0 offset]
  | .call rd distance => [.auipc rd (offsetHi distance), .jalr rd rd (offsetLo distance)]
  | .csrc csr rs1 => [.csrrc 0 csr rs1]
  | .csrci csr zimm => [.csrrci 0 csr zimm]
  | .csrr rd csr => [.csrrs rd csr 0]
  | .csrs csr rs1 => [.csrrs 0 csr rs1]
  | .csrsi csr zimm => [.csrrsi 0 csr zimm]
  | .csrw csr rs1 => [.csrrw 0 csr rs1]
  | .csrwi csr zimm => [.csrrwi 0 csr zimm]
  | .fabsD rd rs1 => [.fsgnjxD rd rs1 rs1]
  | .fabsS rd rs1 => [.fsgnjxS rd rs1 rs1]
  | .fmvD rd rs1 => [.fsgnjD rd rs1 rs1]
  | .fmvS rd rs1 => [.fsgnjS rd rs1 rs1]
  | .fnegD rd rs1 => [.fsgnjnD rd rs1 rs1]
  | .fnegS rd rs1 => [.fsgnjnS rd rs1 rs1]
  | .frcsr rd => [.csrrs rd Csr.fcsr.number 0]
  | .frflags rd => [.csrrs rd Csr.fflags.number 0]
  | .frrm rd => [.csrrs rd Csr.frm.number 0]
  | .fscsr rd rs1 => [.csrrw rd Csr.fcsr.number rs1]
  | .fsflags rd rs1 => [.csrrw rd Csr.fflags.number rs1]
  | .fsrm rd rs1 => [.csrrw rd Csr.frm.number rs1]
  | .j offset => [.jal 0 offset]
  | .jr rs1 => [.jalr 0 rs1 0]
  | .la rd distance => [.auipc rd (offsetHi distance), .addi rd rd (offsetLo distance)]
  | .laGot rd distance => [.auipc rd (offsetHi distance), (match xl with | .rv32 => .lw rd rd (offsetLo distance) | .rv64 => .ld rd rd (offsetLo distance))]
  | .li rd value => liWord xl rd value
  | .lla rd distance => [.auipc rd (offsetHi distance), .addi rd rd (offsetLo distance)]
  | .mv rd rs1 => [.addi rd rs1 0]
  | .neg rd rs2 => [.sub rd 0 rs2]
  | .negw rd rs2 => [.subw rd 0 rs2]
  | .nop => [.addi 0 0 0]
  | .not rd rs1 => [.xori rd rs1 (-1)]
  | .rdcycle rd => [.csrrs rd Csr.cycle.number 0]
  | .rdcycleh rd => [.csrrs rd Csr.cycleh.number 0]
  | .rdinstret rd => [.csrrs rd Csr.instret.number 0]
  | .rdinstreth rd => [.csrrs rd Csr.instreth.number 0]
  | .rdtime rd => [.csrrs rd Csr.time.number 0]
  | .rdtimeh rd => [.csrrs rd Csr.timeh.number 0]
  | .ret => [.jalr 0 1 0]
  | .seqz rd rs1 => [.sltiu rd rs1 1]
  | .sextW rd rs1 => [.addiw rd rs1 0]
  | .sgtz rd rs2 => [.slt rd 0 rs2]
  | .sltz rd rs1 => [.slt rd rs1 0]
  | .snez rd rs2 => [.sltu rd 0 rs2]
  | .tail distance => [.auipc 6 (offsetHi distance), .jalr 0 6 (offsetLo distance)]

end Sys2Proof.Machine
end

