-- ==== Sys2Proof/Tests/Slice0.lean ====
section
/-!
SUPPORT. Sys2Proof/Tests/Slice0.lean: the model's own tests: ill-formed terms refused, the spec's words decoded, single
steps with the results of the spec's examples, and for each statement with hypotheses a state that meets them.
-/
namespace Sys2Proof.Tests

-- The theorems are checked one after another: each kernel check in flight would hold a thread and its stack.
set_option Elab.async false

open Sys2Proof Sys2Proof.Machine

/-! ## Ill-formed terms (WellFormed.lean) -/

theorem test_odd_branch_offsets_refused :
    ([.beq 1 2 3, .bge 1 2 3, .bgeu 1 2 3, .blt 1 2 3, .bltu 1 2 3, .bne 1 2 3, .jal 1 5, .cBeqz 0 1, .cBnez 0 1, .cJ 1,
      .cJal 1] : List Instr).all (fun i => !i.wf) = true := by decide

theorem test_x0_operands_refused :
    ([.cAdd 0 1, .cAdd 1 0, .cMv 1 0, .cAddiw 0 1, .cJr 0, .cJalr 0, .cLwsp 0 4, .cLdsp 0 8, .cLui 2 1] :
      List Instr).all (fun i => !i.wf) = true := by decide

theorem test_zero_immediates_refused :
    ([.cAddi16sp 0, .cAddi4spn 0 0, .cLui 1 0] : List Instr).all (fun i => !i.wf) = true := by decide

theorem test_unscaled_offsets_refused :
    ([.cAddi16sp 8, .cAddi4spn 0 2, .cLw 0 0 2, .cSw 0 0 2, .cFlw 0 0 2, .cFsw 0 0 2, .cLwsp 1 2, .cSwsp 1 2, .cFlwsp 1 2,
      .cFswsp 1 2, .cLd 0 0 4, .cSd 0 0 4, .cFld 0 0 4, .cFsd 0 0 4, .cLdsp 1 4, .cSdsp 1 4, .cFldsp 1 4,
      .cFsdsp 1 4] : List Instr).all (fun i => !i.wf) = true := by decide

/-! ## Decoding: the word of an example of each rule -/

/-- Every word decodes to its instruction, and the instruction encodes to the word. -/
def decodesAll (l : List (Xlen × Code × Instr)) : Bool :=
  l.all (fun p => decode p.1 p.2.1 == .instr p.2.2 && encode p.2.2 == p.2.1)

/-- The words of the examples of R201 to R230. -/
theorem test_integer_words_decode : decodesAll [
    (.rv32, .word 0x002081B3#32, .add 3 1 2),
    (.rv32, .word 0xFFF30293#32, .addi 5 6 (-1)),
    (.rv64, .word 0x0013029B#32, .addiw 5 6 1),
    (.rv64, .word 0x007302BB#32, .addw 5 6 7),
    (.rv32, .word 0x00C5F533#32, .and 10 11 12),
    (.rv32, .word 0xFF05F513#32, .andi 10 11 (-16)),
    (.rv32, .word 0x12345297#32, .auipc 5 74565),
    (.rv32, .word 0x123452B7#32, .lui 5 74565),
    (.rv32, .word 0x00C5E533#32, .or 10 11 12),
    (.rv32, .word 0x00F5E513#32, .ori 10 11 15),
    (.rv32, .word 0x007312B3#32, .sll 5 6 7),
    (.rv32, .word 0x00431293#32, .slli 5 6 4),
    (.rv64, .word 0x01F3129B#32, .slliw 5 6 31),
    (.rv64, .word 0x007312BB#32, .sllw 5 6 7),
    (.rv32, .word 0x007322B3#32, .slt 5 6 7),
    (.rv32, .word 0xFFF32293#32, .slti 5 6 (-1)),
    (.rv32, .word 0xFFF33293#32, .sltiu 5 6 (-1)),
    (.rv32, .word 0x007332B3#32, .sltu 5 6 7),
    (.rv32, .word 0x407352B3#32, .sra 5 6 7),
    (.rv32, .word 0x40435293#32, .srai 5 6 4),
    (.rv64, .word 0x4043529B#32, .sraiw 5 6 4),
    (.rv64, .word 0x407352BB#32, .sraw 5 6 7),
    (.rv32, .word 0x007352B3#32, .srl 5 6 7),
    (.rv32, .word 0x00435293#32, .srli 5 6 4),
    (.rv64, .word 0x0043529B#32, .srliw 5 6 4),
    (.rv64, .word 0x007352BB#32, .srlw 5 6 7),
    (.rv32, .word 0x407302B3#32, .sub 5 6 7),
    (.rv64, .word 0x407302BB#32, .subw 5 6 7),
    (.rv32, .word 0x00C5C533#32, .xor 10 11 12),
    (.rv32, .word 0xFFF5C513#32, .xori 10 11 (-1))] = true := by
  decide +kernel

/-- The words of the examples of R261 to R268. -/
theorem test_control_words_decode : decodesAll [
    (.rv32, .word 0x00208863#32, .beq 1 2 16),
    (.rv32, .word 0x0020D463#32, .bge 1 2 8),
    (.rv32, .word 0x0020F463#32, .bgeu 1 2 8),
    (.rv32, .word 0x0020C463#32, .blt 1 2 8),
    (.rv32, .word 0x0020E463#32, .bltu 1 2 8),
    (.rv32, .word 0xFE209CE3#32, .bne 1 2 (-8)),
    (.rv32, .word 0x001000EF#32, .jal 1 2048),
    (.rv32, .word 0x004280E7#32, .jalr 1 5 4)] = true := by
  decide +kernel

/-- The words of the examples of R281 to R293. -/
theorem test_memory_words_decode : decodesAll [
    (.rv32, .word 0x0230000F#32, .fence 2 3),
    (.rv32, .word 0x0000100F#32, .fenceI),
    (.rv32, .word 0xFFF30283#32, .lb 5 6 (-1)),
    (.rv32, .word 0x00034283#32, .lbu 5 6 0),
    (.rv64, .word 0x00833283#32, .ld 5 6 8),
    (.rv32, .word 0x00231283#32, .lh 5 6 2),
    (.rv32, .word 0x00235283#32, .lhu 5 6 2),
    (.rv32, .word 0x00032283#32, .lw 5 6 0),
    (.rv64, .word 0x00036283#32, .lwu 5 6 0),
    (.rv32, .word 0x007301A3#32, .sb 7 6 3),
    (.rv64, .word 0x00733023#32, .sd 7 6 0),
    (.rv32, .word 0x00731123#32, .sh 7 6 2),
    (.rv32, .word 0xFE732E23#32, .sw 7 6 (-4))] = true := by
  decide +kernel

/-- The words of the examples of R311 to R322. -/
theorem test_system_words_decode : decodesAll [
    (.rv32, .word 0x300332F3#32, .csrrc 5 0x300 6),
    (.rv32, .word 0x300472F3#32, .csrrci 5 0x300 8),
    (.rv32, .word 0x300322F3#32, .csrrs 5 0x300 6),
    (.rv32, .word 0x300462F3#32, .csrrsi 5 0x300 8),
    (.rv32, .word 0x340312F3#32, .csrrw 5 0x340 6),
    (.rv32, .word 0x340FD2F3#32, .csrrwi 5 0x340 31),
    (.rv32, .word 0x00100073#32, .ebreak),
    (.rv32, .word 0x00000073#32, .ecall),
    (.rv32, .word 0x30200073#32, .mret),
    (.rv32, .word 0x12000073#32, .sfenceVma 0 0),
    (.rv32, .word 0x10200073#32, .sret),
    (.rv32, .word 0x10500073#32, .wfi)] = true := by
  decide +kernel

/-- The words of the examples of R341 to R353. -/
theorem test_multiply_divide_words_decode : decodesAll [
    (.rv32, .word 0x027342B3#32, .div 5 6 7),
    (.rv32, .word 0x027352B3#32, .divu 5 6 7),
    (.rv64, .word 0x027352BB#32, .divuw 5 6 7),
    (.rv64, .word 0x027342BB#32, .divw 5 6 7),
    (.rv32, .word 0x027302B3#32, .mul 5 6 7),
    (.rv32, .word 0x027312B3#32, .mulh 5 6 7),
    (.rv32, .word 0x027322B3#32, .mulhsu 5 6 7),
    (.rv32, .word 0x027332B3#32, .mulhu 5 6 7),
    (.rv64, .word 0x027302BB#32, .mulw 5 6 7),
    (.rv32, .word 0x027362B3#32, .rem 5 6 7),
    (.rv32, .word 0x027372B3#32, .remu 5 6 7),
    (.rv64, .word 0x027372BB#32, .remuw 5 6 7),
    (.rv64, .word 0x027362BB#32, .remw 5 6 7)] = true := by
  decide +kernel

/-- The words of the examples of R361 to R382. -/
theorem test_atomic_words_decode : decodesAll [
    (.rv64, .word 0x007332AF#32, .amoaddD false false 5 6 7),
    (.rv32, .word 0x007322AF#32, .amoaddW false false 5 6 7),
    (.rv64, .word 0x607332AF#32, .amoandD false false 5 6 7),
    (.rv32, .word 0x607322AF#32, .amoandW false false 5 6 7),
    (.rv64, .word 0xA07332AF#32, .amomaxD false false 5 6 7),
    (.rv32, .word 0xA07322AF#32, .amomaxW false false 5 6 7),
    (.rv64, .word 0xE07332AF#32, .amomaxuD false false 5 6 7),
    (.rv32, .word 0xE07322AF#32, .amomaxuW false false 5 6 7),
    (.rv64, .word 0x807332AF#32, .amominD false false 5 6 7),
    (.rv32, .word 0x807322AF#32, .amominW false false 5 6 7),
    (.rv64, .word 0xC07332AF#32, .amominuD false false 5 6 7),
    (.rv32, .word 0xC07322AF#32, .amominuW false false 5 6 7),
    (.rv64, .word 0x407332AF#32, .amoorD false false 5 6 7),
    (.rv32, .word 0x407322AF#32, .amoorW false false 5 6 7),
    (.rv64, .word 0x087332AF#32, .amoswapD false false 5 6 7),
    (.rv32, .word 0x087322AF#32, .amoswapW false false 5 6 7),
    (.rv64, .word 0x207332AF#32, .amoxorD false false 5 6 7),
    (.rv32, .word 0x207322AF#32, .amoxorW false false 5 6 7),
    (.rv64, .word 0x100332AF#32, .lrD false false 5 6),
    (.rv32, .word 0x100322AF#32, .lrW false false 5 6),
    (.rv64, .word 0x187332AF#32, .scD false false 5 6 7),
    (.rv32, .word 0x187322AF#32, .scW false false 5 6 7)] = true := by
  decide +kernel

/-- The words of the examples of R405 to R434. -/
theorem test_single_words_decode : decodesAll [
    (.rv64, .word 0x002081D3#32, .faddS 0 3 1 2),
    (.rv64, .word 0xE00092D3#32, .fclassS 5 1),
    (.rv64, .word 0xC02092D3#32, .fcvtLS 1 5 1),
    (.rv64, .word 0xC03092D3#32, .fcvtLuS 1 5 1),
    (.rv64, .word 0xD02300D3#32, .fcvtSL 0 1 6),
    (.rv64, .word 0xD03300D3#32, .fcvtSLu 0 1 6),
    (.rv64, .word 0xD00300D3#32, .fcvtSW 0 1 6),
    (.rv64, .word 0xD01300D3#32, .fcvtSWu 0 1 6),
    (.rv64, .word 0xC00092D3#32, .fcvtWS 1 5 1),
    (.rv64, .word 0xC01092D3#32, .fcvtWuS 1 5 1),
    (.rv64, .word 0x182081D3#32, .fdivS 0 3 1 2),
    (.rv64, .word 0xA020A2D3#32, .feqS 5 1 2),
    (.rv64, .word 0xA02082D3#32, .fleS 5 1 2),
    (.rv64, .word 0xA02092D3#32, .fltS 5 1 2),
    (.rv64, .word 0x00432087#32, .flw 1 6 4),
    (.rv64, .word 0x18208243#32, .fmaddS 0 4 1 2 3),
    (.rv64, .word 0x282091D3#32, .fmaxS 3 1 2),
    (.rv64, .word 0x282081D3#32, .fminS 3 1 2),
    (.rv64, .word 0x18208247#32, .fmsubS 0 4 1 2 3),
    (.rv64, .word 0x102081D3#32, .fmulS 0 3 1 2),
    (.rv64, .word 0xF00300D3#32, .fmvWX 1 6),
    (.rv64, .word 0xE00082D3#32, .fmvXW 5 1),
    (.rv64, .word 0x1820824F#32, .fnmaddS 0 4 1 2 3),
    (.rv64, .word 0x1820824B#32, .fnmsubS 0 4 1 2 3),
    (.rv64, .word 0x202081D3#32, .fsgnjS 3 1 2),
    (.rv64, .word 0x202091D3#32, .fsgnjnS 3 1 2),
    (.rv64, .word 0x2020A1D3#32, .fsgnjxS 3 1 2),
    (.rv64, .word 0x58008153#32, .fsqrtS 0 2 1),
    (.rv64, .word 0x082081D3#32, .fsubS 0 3 1 2),
    (.rv64, .word 0xFE132E27#32, .fsw 1 6 (-4))] = true := by
  decide +kernel

/-- The words of the examples of R451 to R482. -/
theorem test_double_words_decode : decodesAll [
    (.rv64, .word 0x022081D3#32, .faddD 0 3 1 2),
    (.rv64, .word 0xE20092D3#32, .fclassD 5 1),
    (.rv64, .word 0xD22300D3#32, .fcvtDL 0 1 6),
    (.rv64, .word 0xD23300D3#32, .fcvtDLu 0 1 6),
    (.rv64, .word 0x42008153#32, .fcvtDS 0 2 1),
    (.rv64, .word 0xD20300D3#32, .fcvtDW 0 1 6),
    (.rv64, .word 0xD21300D3#32, .fcvtDWu 0 1 6),
    (.rv64, .word 0xC22092D3#32, .fcvtLD 1 5 1),
    (.rv64, .word 0xC23092D3#32, .fcvtLuD 1 5 1),
    (.rv64, .word 0x40108153#32, .fcvtSD 0 2 1),
    (.rv64, .word 0xC20092D3#32, .fcvtWD 1 5 1),
    (.rv64, .word 0xC21092D3#32, .fcvtWuD 1 5 1),
    (.rv64, .word 0x1A2081D3#32, .fdivD 0 3 1 2),
    (.rv64, .word 0xA220A2D3#32, .feqD 5 1 2),
    (.rv64, .word 0x00833087#32, .fld 1 6 8),
    (.rv64, .word 0xA22082D3#32, .fleD 5 1 2),
    (.rv64, .word 0xA22092D3#32, .fltD 5 1 2),
    (.rv64, .word 0x1A208243#32, .fmaddD 0 4 1 2 3),
    (.rv64, .word 0x2A2091D3#32, .fmaxD 3 1 2),
    (.rv64, .word 0x2A2081D3#32, .fminD 3 1 2),
    (.rv64, .word 0x1A208247#32, .fmsubD 0 4 1 2 3),
    (.rv64, .word 0x122081D3#32, .fmulD 0 3 1 2),
    (.rv64, .word 0xF20300D3#32, .fmvDX 1 6),
    (.rv64, .word 0xE20082D3#32, .fmvXD 5 1),
    (.rv64, .word 0x1A20824F#32, .fnmaddD 0 4 1 2 3),
    (.rv64, .word 0x1A20824B#32, .fnmsubD 0 4 1 2 3),
    (.rv64, .word 0x00133027#32, .fsd 1 6 0),
    (.rv64, .word 0x222081D3#32, .fsgnjD 3 1 2),
    (.rv64, .word 0x222091D3#32, .fsgnjnD 3 1 2),
    (.rv64, .word 0x2220A1D3#32, .fsgnjxD 3 1 2),
    (.rv64, .word 0x5A008153#32, .fsqrtD 0 2 1),
    (.rv64, .word 0x0A2081D3#32, .fsubD 0 3 1 2)] = true := by
  decide +kernel

/-- The words of the examples of R504 to R544. -/
theorem test_compressed_words_decode : decodesAll [
    (.rv32, .half 0x952E#16, .cAdd 10 11),
    (.rv32, .half 0x157D#16, .cAddi 10 (-1)),
    (.rv32, .half 0x713D#16, .cAddi16sp (-32)),
    (.rv32, .half 0x0800#16, .cAddi4spn 0 16),
    (.rv64, .half 0x2505#16, .cAddiw 10 1),
    (.rv64, .half 0x9C25#16, .cAddw 0 1),
    (.rv32, .half 0x8C65#16, .cAnd 0 1),
    (.rv32, .half 0x9841#16, .cAndi 0 (-16)),
    (.rv32, .half 0xC801#16, .cBeqz 0 16),
    (.rv32, .half 0xFC75#16, .cBnez 0 (-4)),
    (.rv32, .half 0x9002#16, .cEbreak),
    (.rv32, .half 0x2480#16, .cFld 0 1 8),
    (.rv32, .half 0x20C2#16, .cFldsp 1 16),
    (.rv32, .half 0x60C0#16, .cFlw 0 1 4),
    (.rv32, .half 0x60A2#16, .cFlwsp 1 8),
    (.rv32, .half 0xA080#16, .cFsd 0 1 0),
    (.rv32, .half 0xA406#16, .cFsdsp 1 8),
    (.rv32, .half 0xE0C0#16, .cFsw 0 1 4),
    (.rv32, .half 0xE606#16, .cFswsp 1 12),
    (.rv32, .half 0xBFFD#16, .cJ (-2)),
    (.rv32, .half 0x2081#16, .cJal 64),
    (.rv32, .half 0x9282#16, .cJalr 5),
    (.rv32, .half 0x8082#16, .cJr 1),
    (.rv64, .half 0x6480#16, .cLd 0 1 8),
    (.rv64, .half 0x6542#16, .cLdsp 10 16),
    (.rv64, .half 0x5501#16, .cLi 10 (-32)),
    (.rv64, .half 0x757D#16, .cLui 10 0x3F),
    (.rv64, .half 0x40C0#16, .cLw 0 1 4),
    (.rv32, .half 0x4522#16, .cLwsp 10 8),
    (.rv32, .half 0x852E#16, .cMv 10 11),
    (.rv32, .half 0x8C45#16, .cOr 0 1),
    (.rv64, .half 0xE080#16, .cSd 0 1 0),
    (.rv64, .half 0xE42A#16, .cSdsp 10 8),
    (.rv32, .half 0x0512#16, .cSlli 10 4),
    (.rv32, .half 0x8411#16, .cSrai 0 4),
    (.rv32, .half 0x8011#16, .cSrli 0 4),
    (.rv32, .half 0x8C05#16, .cSub 0 1),
    (.rv64, .half 0x9C05#16, .cSubw 0 1),
    (.rv32, .half 0xC0C0#16, .cSw 0 1 4),
    (.rv32, .half 0xC62A#16, .cSwsp 10 12),
    (.rv32, .half 0x8C25#16, .cXor 0 1)] = true := by
  decide +kernel

/-- One word of each family, written out field by field from the encodings of 30_encoding.md. -/
theorem test_fields_written_out_decode : decodesAll [
    (.rv64, .word 0b0100000_00010_00001_000_00011_0110011#32, .sub 3 1 2),
    (.rv64, .word 0b1_111111_00010_00001_101_1110_1_1100011#32, .bge 1 2 (-4)),
    (.rv64, .word 0b1_1111111110_1_11111111_00001_1101111#32, .jal 1 (-4)),
    (.rv64, .word 0b1111111_00111_00110_010_11100_0100011#32, .sw 7 6 (-4)),
    (.rv64, .word 0b001100000101_10000_101_00000_1110011#32, .csrrwi 0 0x305 16),
    (.rv64, .word 0b0011000_00010_00000_000_00000_1110011#32, .mret),
    (.rv64, .word 0b0000001_00010_00001_111_00011_0110011#32, .remu 3 1 2),
    (.rv64, .word 0b00011_1_0_00111_00110_011_00101_0101111#32, .scD true false 5 6 7),
    (.rv64, .word 0b00011_00_00010_00001_001_00100_1000011#32, .fmaddS 1 4 1 2 3),
    (.rv64, .word 0b1100001_00011_00001_111_00101_1010011#32, .fcvtLuD 7 5 1),
    (.rv64, .half 0b101_0_1_10_0_1_0_010_0_01#16, .cJ 596)] = true := by
  decide +kernel

/-- R163: the same bits are c.jal on XLEN = 32 and c.addiw on XLEN = 64. -/
theorem test_halfword_depends_on_xlen :
    decode .rv32 (.half 0x2005#16) = .instr (.cJal 32) ∧ decode .rv64 (.half 0x2085#16) = .instr (.cAddiw 1 1) := by
  decide

/-! ## Single steps: values of the spec's examples -/

/-- A state with these x registers, and floating point on. -/
def small (x : Xlen) (regs : List (Reg × Word)) (mem : List Host.Cell) : State :=
  regs.foldl (fun s p => s.setX p.1 p.2)
    { State.reset with
      cfg := { State.reset.cfg with xlen := x }, pc := 0x400, mem := mem
      mstatus := { State.reset.mstatus with fs := 1 } }

/-- What a result holds, seen through g. -/
def seen {α : Type} (g : State → α) : Result → Option α
  | .next s => some (g s)
  | .fault _ => none
  | .refused _ => none

/-- Why a result is no next state. -/
def stopped : Result → Option (Fault ⊕ Refusal)
  | .next _ => none
  | .fault r => some (.inl r)
  | .refused r => some (.inr r)

/-- Does the instruction end in a next state with minstret counted, or not counted? -/
def retired (s : State) (i : Instr) : Bool := seen (·.minstret) (exec i s) == some (s.minstret + 1)
def raised (s : State) (i : Instr) : Bool := seen (·.minstret) (exec i s) == some s.minstret

/-- R201, example 1. -/
theorem test_add_wraps_to_the_sign :
    seen (fun t => (t.getX 3, t.pc)) (exec (.add 3 1 2) (small .rv32 [(1, 0x7FFFFFFF), (2, 1)] [])) =
      some (0x80000000, 0x404) := by decide +kernel

/-- R341, examples 1 and 3. -/
theorem test_div_rounds_to_zero :
    seen (·.getX 5) (exec (.div 5 6 7) (small .rv32 [(6, 0xFFFFFFF9), (7, 2)] [])) = some 0xFFFFFFFD := by decide +kernel
theorem test_div_overflow :
    seen (·.getX 5) (exec (.div 5 6 7) (small .rv32 [(6, 0x80000000), (7, 0xFFFFFFFF)] [])) = some 0x80000000 := by
  decide +kernel

/-- R261, examples 1 and 2. -/
theorem test_beq_taken :
    seen (·.pc) (exec (.beq 1 2 16) (small .rv32 [(1, 5), (2, 5)] [])) = some 0x410 := by decide +kernel
theorem test_beq_not_taken :
    seen (·.pc) (exec (.beq 1 2 (-4)) (small .rv32 [(1, 5), (2, 6)] [])) = some 0x404 := by decide +kernel

/-- R268: the target is formed before the link is written when rd = rs1. -/
theorem test_jalr_reads_before_it_links :
    seen (fun t => (t.getX 1, t.pc)) (exec (.jalr 1 1 5) (small .rv64 [(1, 0x1000)] [])) = some (0x404, 0x1004) := by
  decide +kernel

/-- R283, the example. -/
theorem test_lb_sign_extends :
    seen (·.getX 5) (exec (.lb 5 6 (-1)) (small .rv32 [(6, 0x1001)] [(0x1000, 0x80)])) = some 0xFFFFFF80 := by
  decide +kernel

/-- R293: least significant byte first. -/
theorem test_sw_is_little_endian :
    seen (·.mem) (exec (.sw 7 6 0) (small .rv32 [(6, 0x1000), (7, 0x11223344)] [])) =
      some [(0x1000, 0x44), (0x1001, 0x33), (0x1002, 0x22), (0x1003, 0x11)] := by decide +kernel

/-- R75, R644: a misaligned load, value the address. -/
theorem test_lw_misaligned :
    seen (fun t => (t.mcause, t.mtval, t.mepc)) (exec (.lw 5 6 0) (small .rv32 [(6, 0x1002)] [])) =
      some (4, 0x1002, 0x400) := by decide +kernel

/-- R311, the example. -/
theorem test_csrrc_clears_mie :
    seen (fun t => (t.getX 5, t.csrRead .mstatus)) (exec (.csrrc 5 0x300 6)
      { small .rv32 [(6, 8)] [] with mstatus := ⟨false, true, false, true, false, .machine, 0, false, false, false⟩ }) =
      some (0x1888, 0x1880) := by decide +kernel

/-- The worked example of 60_exceptions.md: ecall from U-mode, then mret. -/
theorem test_ecall_from_user_mode :
    seen (fun t => (t.mcause, t.mepc, t.priv, t.pc, t.csrRead .mstatus)) (exec .ecall
      { small .rv32 [] [] with
        pc := 0x2004, priv := .user, mtvec := 0x100
        mstatus := ⟨false, true, false, false, false, .user, 0, false, false, false⟩ }) =
      some (8, 0x2004, .machine, 0x100, 0x80) := by decide +kernel
theorem test_mret_to_user_mode :
    seen (fun t => (t.pc, t.priv, t.csrRead .mstatus)) (exec .mret
      { small .rv32 [] [] with
        mepc := 0x2008, mstatus := ⟨false, false, false, true, false, .user, 0, false, false, false⟩ }) =
      some (0x2008, .user, 0x88) := by decide +kernel

/-- The worked example of 60_exceptions.md: MTI in vectored mode, at pc. -/
theorem test_timer_interrupt_vectored :
    seen (fun t => (t.mcause, t.mepc, t.mtval, t.pc)) (step
      { small .rv32 [] [] with
        cfg := { State.reset.cfg with xlen := .rv32, irqMTI := true }
        pc := 0x2004, mtvec := 0x101, priv := .user, lines := ⟨false, true, false⟩
        mie := ⟨false, false, false, true, false, false⟩ }) =
      some (0x80000007, 0x2004, 0, 0x11C) := by decide +kernel

/-- R362, the example. -/
theorem test_amoadd_w :
    seen (fun t => (t.getX 5, t.leNat 0x1000 4)) (exec (.amoaddW false false 5 6 7)
      (small .rv32 [(6, 0x1000), (7, 1)] [(0x1000, 0xFF), (0x1001, 0xFF), (0x1002, 0xFF), (0x1003, 0x7F)])) =
      some (0x7FFFFFFF, 0x80000000) := by decide +kernel

/-- R41: an sc of another size than the reservation's fails. -/
theorem test_sc_of_another_size_fails :
    seen (fun t => (t.getX 5, t.mem, t.reservation)) (exec (.scW false false 5 6 7)
      { small .rv64 [(6, 0x1000), (7, 9)] [] with reservation := some ⟨0x1000, 8⟩ }) = some (1, [], none) := by
  decide +kernel

/-- R405, example 2, boxed: inf + (-inf) is the canonical NaN, NV. -/
theorem test_fadd_s_of_infinities :
    seen (fun t => (t.getF 3, t.fflags, t.mstatus.fs)) (exec (.faddS 7 3 1 2)
      ((small .rv64 [] []).setS 1 0x7F800000 |>.setS 2 0xFF800000)) = some (0xFFFFFFFF7FC00000, 0x10, 3) := by
  decide +kernel

/-- R407, example 1: -1.5 toward zero. -/
theorem test_fcvt_l_s_toward_zero :
    seen (fun t => (t.getX 5, t.fflags)) (exec (.fcvtLS 1 5 1) ((small .rv64 [] []).setS 1 0xBFC00000)) =
      some (0xFFFFFFFFFFFFFFFF, 1) := by decide +kernel

/-- R29: an unboxed single reads as the canonical NaN, of class 9. -/
theorem test_fclass_s_of_an_unboxed_single :
    seen (·.getX 5) (exec (.fclassS 5 1) ((small .rv64 [] []).setF 1 0x3F800000)) = some 0x200 := by decide +kernel

/-- R503: the link of c.jalr is pc + 2. -/
theorem test_c_jalr_links_pc_plus_2 :
    seen (fun t => (t.getX 1, t.pc)) (exec (.cJalr 5) (small .rv64 [(5, 0x2001)] [])) = some (0x402, 0x2000) := by
  decide +kernel

/-- A word placed by withFetchWord is what the next step runs. -/
theorem test_placed_word_runs :
    seen (·.getX 5) (step (State.reset.withFetchWord 32 0x7FF00293)) = some 0x7FF := by decide +kernel
theorem test_placed_halfword_runs :
    seen (·.pc) (step (State.reset.withFetchWord 16 0x0001)) = some 0x80000002 := by decide +kernel

/-! ## The hypotheses of the statements are met -/

/-- The reset state with floating point on: XLEN = 64, every extension, M-mode, one region of memory. -/
def ready : State := { State.reset with mstatus := { State.reset.mstatus with fs := 1 } }

/-- The same with XLEN = 32. -/
def ready32 : State := { ready with cfg := { ready.cfg with xlen := .rv32 } }

/-- The same without C: IALIGN is 32. -/
def noC : State := { ready32 with cfg := { ready32.cfg with extC := false } }

/-- XLEN = 64 with misaligned accesses split, and one region of 16 bytes without W at 0x1000. -/
def readOnly : State :=
  { ready with cfg := { ready.cfg with misaligned := .split, memMap := [⟨0x1000, 16, .memory, true, false, true⟩] } }

/-- Misaligned accesses split, and the only memory 16 bytes at 0x1000: the last byte of a word at 0x100D is vacant. -/
def splitting : State :=
  { (ready.setX 1 0x100D).setX 2 0x11223344 with
    cfg := { ready.cfg with misaligned := .split, memMap := [⟨0x1000, 16, .memory, true, true, true⟩] } }

/-- The low half of a 32-bit instruction in the last two bytes of memory. -/
def cutOff : State := { splitting with pc := 0x100E }.withFetchWord 16 0x0293

/-- An RV32I machine of M-mode only, which starts at 0x400. -/
def plainParams : Params :=
  { resetParams with
    xlen := .rv32, extM := false, extA := false, extF := false, extD := false, extC := false, hasS := false, hasU := false
    resetPc := 0x400, hartId := 0x100000005 }

/-- Nothing is anywhere: every address is vacant. -/
def vacant : State := { ready with cfg := { ready.cfg with memMap := [] } }

/-- Every interrupt pending and enabled, in M-mode with MIE on. -/
def interrupted (msi mti mei ssi sti sei : Bool) : State :=
  { ready with
    cfg := { ready.cfg with irqMSI := true, irqMTI := true, irqMEI := true }
    mstatus := { ready.mstatus with mie := true }
    lines := ⟨msi, mti, mei⟩, mip := ⟨ssi, sti, sei⟩, mie := ⟨true, true, true, true, true, true⟩ }

/-- An instruction at pc: addi x5, x0, 2047. -/
def placed : State := ready.withFetchWord 32 0x7FF00293

/-- Traps end the run. -/
def terminal : State := { ready with cfg := { ready.cfg with trapModel := .terminal } }

/-- Memory from 0x80000000 on, and a device of 16 bytes at 0x1000, to which x6 points. -/
def withDevice : State :=
  { ready.setX 6 0x1000 with
    cfg := { ready.cfg with
      memMap := [⟨0x80000000, 0x80000000, .memory, true, true, true⟩, ⟨0x1000, 16, .device, true, true, false⟩] } }

/-- The first byte of the instruction at pc was stored to since the last fence.i, and fetches may be stale. -/
def rewritten : State :=
  { placed with
    cfg := { placed.cfg with fetchChoice := .free }, mem := Memory.write placed.mem placed.pc.toNat 0x13 }

theorem witness_EncodedInstructionsDecode :
    (Instr.cSwsp 31 252).wf = true ∧ (Instr.cSwsp 31 252).xlenOnly = none ∧
    (Instr.cLdsp 1 504).wf = true ∧ (Instr.cLdsp 1 504).xlenOnly = some .rv64 := by decide

theorem witness_DecodedInstructionsEncode : decode .rv32 (.half 0x9002#16) = .instr .cEbreak := by decide

theorem witness_IllegalEncodingsAreRejected :
    (bits 0x001C#16 0 2 = 0b00#2 ∧ bits 0x001C#16 13 3 = 0b000#3 ∧ bits 0x001C#16 5 8 = 0#8) ∧
    (bits 0x6F81#16 0 2 = 0b01#2 ∧ bits 0x6F81#16 13 3 = 0b011#3 ∧ bits 0x6F81#16 12 1 = 0#1 ∧ bits 0x6F81#16 2 5 = 0#5) ∧
    (bits 0x507E#16 0 2 = 0b10#2 ∧ bits 0x507E#16 13 3 = 0b010#3 ∧ bits 0x507E#16 7 5 = 0#5) ∧
    (bits 0x707E#16 0 2 = 0b10#2 ∧ bits 0x707E#16 13 3 = 0b011#3 ∧ bits 0x707E#16 7 5 = 0#5) ∧
    (bits 0x307D#16 0 2 = 0b01#2 ∧ bits 0x307D#16 13 3 = 0b001#3 ∧ bits 0x307D#16 7 5 = 0#5) ∧
    (bits 0x8002#16 0 2 = 0b10#2 ∧ bits 0x8002#16 12 4 = 0b1000#4 ∧ bits 0x8002#16 7 5 = 0#5 ∧ bits 0x8002#16 2 5 = 0#5) ∧
    (bits 0x907E#16 0 2 = 0b10#2 ∧ bits 0x907E#16 12 4 = 0b1001#4 ∧ bits 0x907E#16 7 5 = 0#5 ∧
      bits 0x907E#16 2 5 ≠ 0#5) := by decide

theorem witness_OffsetsAreAssembledFromFields :
    decode .rv64 (.word 0b1000000_00111_00110_000_00000_0100011#32) = .instr (.sb 7 6 (-2048)) ∧
    decode .rv32 (.word 0b0111111_00111_00110_010_11111_0100111#32) = .instr (.fsw 7 6 2047) ∧
    decode .rv64 (.word 0b1_000000_00010_00001_000_0000_0_1100011#32) = .instr (.beq 1 2 (-4096)) ∧
    decode .rv32 (.word 0b0_111111_00010_00001_111_1111_1_1100011#32) = .instr (.bgeu 1 2 4094) ∧
    decode .rv64 (.word 0b1_0000000000_0_00000000_00001_1101111#32) = .instr (.jal 1 (-1048576)) ∧
    decode .rv32 (.word 0b0_1111111111_1_11111111_00001_1101111#32) = .instr (.jal 1 1048574) := by decide +kernel

theorem witness_StepRunsDecodedInstruction :
    placed.sampleLines.interruptTaken = none ∧ placed.sampleLines.fetch = .code (.word 0x7FF00293#32) ∧
    decode placed.cfg.xlen (.word 0x7FF00293#32) = .instr (.addi 5 0 2047) ∧ placed.cfg.lineChoice = .pinned ∧
    (seen (fun _ => ()) (exec (.addi 5 0 2047) placed.sampleLines)).isSome = true := by decide +kernel

/-- The clause on faults: ecall under TrapModel = terminal; and the clause on refusals: a load of a device byte. -/
theorem witness_StepRunsDecodedInstruction_stops :
    (let s := terminal.withFetchWord 32 0x00000073
     s.sampleLines.interruptTaken = none ∧ s.sampleLines.fetch = .code (.word 0x73#32) ∧
     decode s.cfg.xlen (.word 0x73#32) = .instr .ecall ∧
     stopped (exec .ecall s.sampleLines) = some (.inl (.trapped false 11 0 s.pc))) ∧
    (let s := withDevice.withFetchWord 32 0x00032283
     s.sampleLines.interruptTaken = none ∧ s.sampleLines.fetch = .code (.word 0x32283#32) ∧
     decode s.cfg.xlen (.word 0x32283#32) = .instr (.lw 5 6 0) ∧
     stopped (exec (.lw 5 6 0) s.sampleLines) = some (.inr (.deviceAccess 0x1000))) := by decide +kernel

/-- Memory at pc was stored to since the last fence.i (`rewritten`, where a fetch may see old or new bytes), or was not. -/
theorem witness_FetchAssemblesParcels :
    placed.cfg.fetchChoice = .pinned ∧ placed.grantedAll .fetch placed.pc 2 ∧ placed.grantedAll .fetch placed.pc 4 ∧
    bits (placed.byte (placed.pc + 1) ++ placed.byte placed.pc) 0 2 = 0b11#2 ∧
    bits (ready.byte (ready.pc + 1) ++ ready.byte ready.pc) 0 2 ≠ 0b11#2 ∧
    rewritten.cfg.fetchChoice = .free ∧ rewritten.grantedAll .fetch rewritten.pc 4 ∧
    rewritten.byte rewritten.pc = 0x13 ∧ Memory.read rewritten.imem (rewritten.norm rewritten.pc).toNat = 0x93 ∧
    (∀ k < 4, Memory.read placed.imem (placed.norm (placed.pc + BitVec.ofNat 64 k)).toNat =
      placed.byte (placed.pc + BitVec.ofNat 64 k)) := by
  unfold State.grantedAll; decide +kernel

theorem witness_FetchAndDecodeExceptions :
    vacant.cfg.trapModel = .full ∧ vacant.sampleLines.interruptTaken = none ∧ vacant.forbidden .fetch vacant.pc = true ∧
    vacant.forbidden .fetch (vacant.pc + 1) = true ∧
    cutOff.cfg.trapModel = .full ∧ cutOff.sampleLines.interruptTaken = none ∧ cutOff.grantedAll .fetch cutOff.pc 2 ∧
    bits (cutOff.parcel cutOff.pc (cutOff.stale false)) 0 2 = 0b11#2 ∧
    cutOff.forbidden .fetch (cutOff.pc + 2) = true ∧ cutOff.forbidden .fetch (cutOff.pc + 3) = true ∧
    ready.cfg.trapModel = .full ∧ ready.sampleLines.interruptTaken = none ∧
    ready.sampleLines.fetch = .code (.half 0#16) ∧ decode ready.cfg.xlen (.half 0#16) = .reject (.noSuchHalfword 0) := by
  unfold State.grantedAll; decide +kernel

/-- R642 (a): the fetch of the second parcel faults, with pc itself as value. -/
theorem test_second_parcel_faults :
    seen (fun t => (t.mcause, t.mtval, t.mepc)) (step cutOff) = some (1, 0x100E, 0x100E) := by decide +kernel

theorem witness_InterruptsAreTakenInOrder :
    (interrupted true true true true true true).interruptTaken = some 11 ∧
    (interrupted true true false true true true).interruptTaken = some 3 ∧
    (interrupted false true false true true true).interruptTaken = some 7 ∧
    (interrupted false false false true true true).interruptTaken = some 9 ∧
    (interrupted false false false true true false).interruptTaken = some 1 ∧
    (interrupted false false false false true false).interruptTaken = some 5 ∧
    (interrupted false false false false false false).interruptTaken = none ∧
    ¬ (ready.priv ≠ .machine ∨ ready.mstatus.mie = true) ∧
    ready.cfg.irqMSI = false ∧ ready.cfg.irqMTI = false ∧ ready.cfg.irqMEI = false := by decide +kernel

/-- R42, D18: with IRQ empty a software bit written to mip reads 0, and no interrupt is taken; with MSI in IRQ it is. -/
theorem test_software_interrupts_need_irq :
    let s := { ready with priv := .user, mie := ⟨true, true, true, true, true, true⟩ }.csrWrite .mip 0x222
    let t := { s with cfg := { s.cfg with irqMSI := true } }.csrWrite .mip 0x222
    (s.csrRead .mip, s.interruptTaken, t.csrRead .mip, t.interruptTaken) = (0, none, 0x222, some 9) := by decide +kernel

theorem witness_InvariantHoldsAtReset :
    Params.legal plainParams = true ∧ Params.bootable plainParams = true ∧
    Params.legal resetParams = true ∧ Params.bootable resetParams = true := by decide

theorem witness_ResetStateAsSpecified :
    plainParams.irqMSI = false ∧ plainParams.irqMTI = false ∧ plainParams.irqMEI = false := by decide

/-- R45, R701: another reset state: pc is RESET_PC, MPP a mode that exists, mhartid of 32 bits. -/
theorem test_reset_of_an_rv32_machine :
    (State.resetOf plainParams).pc = 0x400 ∧ (State.resetOf plainParams).csrRead .mstatus = 0x1800 ∧
    (State.resetOf plainParams).csrRead .misa = 0x40000100 ∧ (State.resetOf plainParams).csrRead .mhartid = 5 := by
  decide +kernel

theorem witness_StepKeepsInvariant :
    placed.Inv ∧ (seen (fun _ => ()) (step placed)).isSome = true := by decide +kernel

theorem witness_StepKeepsParametersAndMovesTime :
    placed.cfg.cycleChoice = .pinned ∧ (seen (fun _ => ()) (step placed)).isSome = true := by decide +kernel

theorem witness_ModeChangesOnlyByTrapsAndReturns :
    Instr.ecall.isReturn = false ∧ (seen (·.priv) (exec .ecall { ready with priv := .user })) = some .machine ∧
    (Instr.add 1 2 3).isReturn = false ∧ (seen (·.priv) (exec (.add 1 2 3) ready)) = some .machine := by decide +kernel

theorem witness_RegisterFileReadsAndWrites : (31 : Reg) ≠ 0 ∧ (30 : Reg) ≠ 31 := by decide

/-- Each of these retires, on registers 8 and 15 among them, and has the compressed form of the statement. -/
theorem witness_CompressedFieldsNameRegisters :
    ready.cfg.extC = true ∧ ready32.cfg.extC = true ∧ ready32.cfg.xlen = .rv32 ∧
    ([.lw 8 15 124, .sw 15 8 124, .ld 8 15 248, .sd 15 8 248, .fld 8 15 248, .fsd 15 8 248, .addi 8 2 1020, .andi 15 15 (-32),
      .srli 8 8 63, .srai 15 15 63, .sub 8 8 15, .xor 8 8 15, .or 15 15 8, .and 15 15 8, .subw 8 8 15, .addw 15 15 8,
      .beq 8 0 (-256), .bne 15 0 254] : List Instr).all (retired ready) = true ∧
    ([.flw 8 15 124, .fsw 15 8 124] : List Instr).all (retired ready32) = true := by decide +kernel

theorem witness_MemoryHoldsWhatWasWritten :
    Memory.wf [] = true ∧ Memory.wf [(0, 1), (0xFFFFFFFFFFFFFFFF, 0xFF)] = true := by decide +kernel

theorem witness_StoredBytesAreLittleEndian :
    Memory.wf ready.mem = true ∧ (∃ k < 8, State.reserves { ready with reservation := some ⟨0x1007, 4⟩ }
      (0x1000 + BitVec.ofNat 64 k) = true) ∧
    (∀ k < 8, State.reserves { ready with reservation := some ⟨0x1008, 4⟩ } (0x1000 + BitVec.ofNat 64 k) = false) ∧
    (∀ k < 8, ready.norm 0x1008 ≠ ready.norm (0x1000 + BitVec.ofNat 64 k)) := by decide +kernel

theorem witness_ImmediateShiftsComplete :
    (63 : BitVec 6).toNat < ready.width ∧ (31 : BitVec 6).toNat < ready32.width ∧ ready32.width ≤ (32 : BitVec 6).toNat := by
  decide

theorem witness_WordArithmeticCompletes : ready.cfg.xlen = .rv64 := by decide

theorem witness_ProductsComplete : ready.cfg.extM = true ∧ ready.cfg.xlen = .rv64 := by decide

theorem witness_QuotientsComplete : ready.cfg.extM = true ∧ ready.cfg.xlen = .rv64 := by decide

theorem witness_CompressedArithmeticCompletes :
    ready.cfg.extC = true ∧ ready.cfg.xlen = .rv64 ∧ (63 : BitVec 6).toNat < ready.width := by decide

/-- x1 holds 1, x2 holds all ones, x8 holds 0, x9 holds 1. -/
def compared : State := ((ready.setX 1 1).setX 2 (-1)).setX 9 1

theorem witness_BranchesComplete :
    compared.badTarget (compared.word (compared.pc.toNat + (4094 : BitVec 13).toInt)) = false ∧
    compared.badTarget (compared.word (compared.pc.toNat + (-4096 : BitVec 13).toInt)) = false ∧
    compared.unsignedX 1 = compared.unsignedX 1 ∧ compared.unsignedX 1 ≠ compared.unsignedX 2 ∧
    compared.signedX 2 < compared.signedX 1 ∧ compared.signedX 1 ≤ compared.signedX 1 ∧
    compared.unsignedX 1 < compared.unsignedX 2 ∧ compared.cfg.extC = true ∧
    compared.badTarget (compared.word (compared.pc.toNat + (-256 : BitVec 9).toInt)) = false ∧
    compared.unsignedX (creg 0) = 0 ∧ compared.unsignedX (creg 1) ≠ 0 := by decide +kernel

theorem witness_JumpsComplete :
    compared.badTarget (compared.word (compared.pc.toNat + (-1048576 : BitVec 21).toInt)) = false ∧
    compared.badTarget (compared.address 1 (-2048 : BitVec 12).toInt &&& ~~~ 1#64) = false ∧
    compared.cfg.extC = true ∧
    compared.badTarget (compared.word (compared.pc.toNat + (2046 : BitVec 12).toInt)) = false ∧
    ready32.cfg.extC = true ∧ ready32.cfg.xlen = .rv32 ∧
    ready32.badTarget (ready32.word (ready32.pc.toNat + (2046 : BitVec 12).toInt)) = false := by decide +kernel

theorem witness_MisalignedAddressesTrap :
    noC.badTarget (noC.word (noC.pc.toNat + (2 : BitVec 13).toInt)) = true ∧
    noC.unsignedX 1 = noC.unsignedX 2 ∧ noC.signedX 1 ≤ noC.signedX 2 ∧
    (noC.setX 1 1).unsignedX 2 < (noC.setX 1 1).unsignedX 1 ∧ (noC.setX 1 1).signedX 2 < (noC.setX 1 1).signedX 1 ∧
    noC.badTarget (noC.word (noC.pc.toNat + (-2 : BitVec 21).toInt)) = true ∧
    noC.badTarget (noC.address 0 (2 : BitVec 12).toInt &&& ~~~ 1#64) = true ∧
    ready.permits (.ld 1 0 4) = true ∧ ready.loads (.ld 1 0 4) = some (4, 8) ∧ ready.cfg.misaligned = .trap ∧
    ¬ ready.multipleOf 4 8 ∧ ready.permits (.sh 1 0 1) = true ∧ ready.stores (.sh 1 0 1) = some (1, 2) ∧
    ¬ ready.multipleOf 1 2 ∧ (ready.setX 1 2).permits (.amoaddW false false 3 1 2) = true ∧
    (ready.setX 1 2).atomics (.amoaddW false false 3 1 2) = some (2, 4) ∧ ¬ (ready.setX 1 2).multipleOf 2 4 ∧
    (ready.setX 1 4).cfg.extA = true ∧ (ready.setX 1 4).cfg.xlen = .rv64 ∧
    ¬ (ready.setX 1 4).multipleOf ((ready.setX 1 4).getX 1) 8 ∧ ¬ (ready.setX 1 2).multipleOf ((ready.setX 1 2).getX 1) 4 := by
  unfold State.multipleOf; decide +kernel

theorem witness_IntegerLoadsComplete :
    ready.completes .load (ready.address 0 (-1 : BitVec 12).toInt) 1 ∧
    ready.completes .load (ready.address 0 (-2 : BitVec 12).toInt) 2 ∧
    ready.completes .load (ready.address 0 (-4 : BitVec 12).toInt) 4 ∧
    ready.completes .load (ready.address 0 (-8 : BitVec 12).toInt) 8 ∧ ready.cfg.xlen = .rv64 ∧ ready.cfg.extC = true ∧
    ready.completes .load (ready.address (creg 0) (124 : BitVec 7).toNat) 4 ∧
    ready.completes .load (ready.address 2 (252 : BitVec 8).toNat) 4 ∧
    ready.completes .load (ready.address (creg 0) (248 : BitVec 8).toNat) 8 ∧
    ready.completes .load (ready.address 2 (504 : BitVec 9).toNat) 8 := by
  unfold State.completes State.grantedAll State.multipleOf; decide +kernel

theorem witness_IntegerStoresComplete :
    ready.completes .store (ready.address 0 (-1 : BitVec 12).toInt) 1 ∧
    ready.completes .store (ready.address 0 (-2 : BitVec 12).toInt) 2 ∧
    ready.completes .store (ready.address 0 (-4 : BitVec 12).toInt) 4 ∧
    ready.completes .store (ready.address 0 (-8 : BitVec 12).toInt) 8 ∧ ready.cfg.xlen = .rv64 ∧ ready.cfg.extC = true ∧
    ready.completes .store (ready.address (creg 0) (124 : BitVec 7).toNat) 4 ∧
    ready.completes .store (ready.address 2 (252 : BitVec 8).toNat) 4 ∧
    ready.completes .store (ready.address (creg 0) (248 : BitVec 8).toNat) 8 ∧
    ready.completes .store (ready.address 2 (504 : BitVec 9).toNat) 8 := by
  unfold State.completes State.grantedAll State.multipleOf; decide +kernel

theorem witness_FloatLoadsAndStoresComplete :
    ready.singleOn ∧ ready.doubleOn ∧ ready.cfg.extC = true ∧
    ready.completes .load (ready.address 0 (-4 : BitVec 12).toInt) 4 ∧
    ready.completes .store (ready.address 0 (-8 : BitVec 12).toInt) 8 ∧
    ready.completes .load (ready.address (creg 0) (248 : BitVec 8).toNat) 8 ∧
    ready.completes .store (ready.address 2 (504 : BitVec 9).toNat) 8 ∧
    ready32.singleOn ∧ ready32.doubleOn ∧ ready32.cfg.extC = true ∧ ready32.cfg.xlen = .rv32 ∧
    ready32.completes .load (ready32.address 0 (-8 : BitVec 12).toInt) 8 ∧
    ready32.completes .store (ready32.address 0 (-4 : BitVec 12).toInt) 4 ∧
    ready32.completes .load (ready32.address (creg 0) (124 : BitVec 7).toNat) 4 ∧
    ready32.completes .load (ready32.address 2 (252 : BitVec 8).toNat) 4 ∧
    ready32.completes .store (ready32.address (creg 0) (124 : BitVec 7).toNat) 4 ∧
    ready32.completes .store (ready32.address 2 (252 : BitVec 8).toNat) 4 ∧
    ready32.completes .load (ready32.address 2 (504 : BitVec 9).toNat) 8 ∧
    ready32.completes .store (ready32.address (creg 0) (248 : BitVec 8).toNat) 8 := by
  unfold State.completes State.grantedAll State.multipleOf State.singleOn State.doubleOn; decide +kernel

theorem witness_ForbiddenAccessesTrap :
    (vacant.permits (.ld 1 0 8) = true ∧ vacant.loads (.ld 1 0 8) = some (8, 8) ∧ vacant.multipleOf 8 8 ∧
      (∃ k < 8, vacant.forbidden .load (8 + BitVec.ofNat 64 k) = true)) ∧
    (let s := vacant.setX 6 0x1000
     s.permits (.lrW false false 5 6) = true ∧ s.permits (.lrD false false 5 6) = true ∧ s.getX 6 = 0x1000 ∧
     s.multipleOf 0x1000 4 ∧ s.multipleOf 0x1000 8 ∧ (∃ k < 4, s.forbidden .load (0x1000 + BitVec.ofNat 64 k) = true)) ∧
    (let s := readOnly.setX 1 0x1000
     s.permits (.sw 2 1 0) = true ∧ s.stores (.sw 2 1 0) = some (0x1000, 4) ∧ s.multipleOf 0x1000 4 ∧
     (∃ k < 4, s.forbidden .store (0x1000 + BitVec.ofNat 64 k) = true) ∧
     s.permits (.amoaddW false false 3 1 2) = true ∧ s.atomics (.amoaddW false false 3 1 2) = some (0x1000, 4) ∧
     (∃ k < 4, s.forbidden .atomic (0x1000 + BitVec.ofNat 64 k) = true)) ∧
    splitting.permits (.lw 2 1 0) = true ∧ splitting.loads (.lw 2 1 0) = some (0x100D, 4) ∧
    splitting.permits (.sw 2 1 0) = true ∧ splitting.stores (.sw 2 1 0) = some (0x100D, 4) ∧
    splitting.storeData (.sw 2 1 0) = 0x11223344 ∧ ¬ splitting.multipleOf 0x100D 4 ∧ splitting.cfg.misaligned = .split ∧
    splitting.grantedAll .load 0x100D 3 ∧ splitting.forbidden .load (0x100D + BitVec.ofNat 64 3) = true ∧
    splitting.grantedAll .store 0x100D 3 ∧ splitting.forbidden .store (0x100D + BitVec.ofNat 64 3) = true := by
  unfold State.grantedAll State.multipleOf; decide +kernel

/-- R75: the bytes of a split store before the one that faults are written. -/
theorem test_split_store_leaves_its_first_bytes :
    seen (fun t => (t.mem, t.mcause, t.mtval)) (exec (.sw 2 1 0) splitting) =
      some ([(0x100D, 0x44), (0x100E, 0x33), (0x100F, 0x22)], 7, 0x100D) := by decide +kernel

theorem witness_FencesAndWaitsComplete :
    ready.cfg.hasS = true ∧ ready.priv = .machine ∧
    (let s := { ready with priv := .supervisor, mstatus := { ready.mstatus with tvm := true, tw := true } }
     s.priv = .supervisor ∧ s.mstatus.tvm = true ∧ s.priv ≠ .machine ∧ s.mstatus.tw = true) ∧
    (let s := { ready with priv := .supervisor }
     s.priv = .supervisor ∧ s.mstatus.tvm = false ∧ s.mstatus.tw = false) ∧
    (let s := { ready with priv := .user }
     s.priv = .user ∧ s.cfg.hasS = true ∧ s.priv ≠ .machine ∧ s.cfg.trapModel = .full) ∧
    (State.cfg { ready with cfg := { ready.cfg with hasS := false } }).hasS = false ∧
    (let s := { terminal with priv := .supervisor, mstatus := { ready.mstatus with tw := true } }
     s.cfg.trapModel = .terminal ∧ s.priv ≠ .machine ∧ s.mstatus.tw = true) ∧
    terminal.cfg.trapModel = .terminal ∧ terminal.priv = .machine := by decide +kernel

theorem witness_CsrInstructionsComplete :
    ready.csrAccess 0x340 true = some .mscratch ∧ ready.csrAccess 0xF14 false = some .mhartid ∧
    ready.csrAccess 0xF14 true = none ∧ ready.csrAccess 0x7C0 false = none ∧ (31 : Reg) ≠ 0 ∧ (31 : BitVec 5) ≠ 0 := by
  decide +kernel

theorem witness_CsrAccessRule :
    ready.csrAccess 0x003 true = some .fcsr ∧ ready.csrAccess 0xC00 false = some .cycle ∧
    State.csrAccess { ready with priv := .supervisor } 0x180 true = some .satp ∧
    State.csrAccess { ready with priv := .user } 0xC02 false = none := by decide +kernel

theorem witness_TrapRegistersReadBack :
    (1#64).getLsbD 1 = false ∧ (2#64).getLsbD 1 = true ∧
    ready.cfg.irqMSI = false ∧ ready.cfg.irqMTI = false ∧ ready.cfg.irqMEI = false := by decide

theorem witness_StatusFieldsReadBack :
    Priv.level .user = (0x0#64).toNat / 2 ^ 11 % 4 ∧ Priv.level .machine = (0x1800#64).toNat / 2 ^ 11 % 4 ∧
    Params.hasMode ready.cfg .user = true ∧ Params.hasMode ready.cfg .machine = true ∧ ready.cfg.xlen = .rv64 ∧
    (∀ p ∈ [Priv.user, .supervisor, .machine], Priv.level p ≠ (0x1000#64).toNat / 2 ^ 11 % 4) := by decide

theorem witness_CountersReadBack : ready.cfg.xlen = .rv64 ∧ ready32.cfg.xlen = .rv32 := by decide

theorem witness_CsrInstructionFrame :
    Csr.mscratch ∉ [Csr.fflags, Csr.fcsr, Csr.frm, .mstatus, .sstatus, .mie, .sie, .mip, .sip, .mcycle, .mcycleh,
      .minstret, .minstreth] ∧ Csr.mscratch ≠ .mepc ∧ (4 : Reg) ≠ 5 := by decide

theorem witness_EnvironmentCallAndBreakpoint : ready.cfg.trapModel = .full ∧ ready.cfg.extC = true := by decide

theorem witness_TrapEntryReachesHandler :
    ready.cfg.trapModel = .full ∧ 15 < 16 ∧
    ready32.fits 0xFFFFFFFD = true ∧ (0xFFFFFFFD#64).getLsbD 1 = false ∧ (0xFFFFFFFD#64).toNat % 4 = 1 ∧
    ready.fits 0x100 = true ∧ (0x100#64).getLsbD 1 = false ∧ (0x100#64).toNat % 4 = 0 := by decide

theorem witness_TrapReturnsRestore_mret :
    ready.priv = .machine ∧ ready.epcsMasked = true ∧ ready.cfg.hasU = true ∧
    (let s := { ready with
       cfg := { ready.cfg with hasU := false, hasS := false }, mstatus := { ready.mstatus with mpp := .machine } }
     s.priv = .machine ∧ s.epcsMasked = true ∧ s.cfg.hasU = false ∧ Params.legal s.cfg = true ∧ s.modesExist = true) ∧
    State.priv { ready with priv := .user } ≠ .machine := by decide +kernel

theorem witness_TrapReturnsRestore_sret :
    ready.cfg.hasS = true ∧ ready.epcsMasked = true ∧
    (let s := { ready with priv := .supervisor, mstatus := { ready.mstatus with spp := true } }
     s.priv = .supervisor ∧ s.mstatus.tsr = false ∧ s.mstatus.spp = true ∧ s.epcsMasked = true) ∧
    ready.mstatus.spp = false ∧
    (let s := { ready with priv := .supervisor, mstatus := { ready.mstatus with tsr := true } }
     s.priv = .supervisor ∧ s.mstatus.tsr = true) ∧
    (State.cfg { ready with cfg := { ready.cfg with hasS := false } }).hasS = false ∧
    State.priv { ready with priv := .user } = .user := by decide +kernel

/-- R656 under R643 (g): sret without S-mode, and in U-mode, is IllegalInstruction with its own bits as value. -/
theorem test_sret_is_illegal_without_s_and_in_user_mode :
    seen (fun t => (t.mcause, t.mtval)) (exec .sret { ready with cfg := { ready.cfg with hasS := false } }) =
      some (2, 0x10200073) ∧
    seen (fun t => (t.mcause, t.mtval)) (exec .sret { ready with priv := .user }) = some (2, 0x10200073) := by
  decide +kernel

theorem witness_UnavailableInstructionsAreIllegal :
    Params.has { ready.cfg with extM := false } (Instr.mul 1 2 3).ext = false ∧
    (Instr.ld 1 2 8).xlenOnly = some .rv64 ∧ Xlen.rv64 ≠ ready32.cfg.xlen ∧
    ready32.cfg.xlen = .rv32 ∧ 32 ≤ (Instr.cSlli 1 32).shamt.toNat ∧
    Ext.isFloat (Instr.cFsdsp 1 8).ext = true ∧ State.reset.mstatus.fs = 0 := by decide

theorem witness_RoundingModesSelect :
    ready.frm.toNat < 5 ∧ 5 ≤ (State.frm { ready with frm := 5 }).toNat ∧
    (Instr.fcvtDW 5 1 2).rm = some 5 ∧ ready.rounding 5 = none ∧ ready.permits (.fcvtDW 5 1 2) = true := by decide +kernel

theorem witness_TerminalTrapsEndTheRun :
    terminal.cfg.trapModel = .terminal := by decide

/-- R669, R322: a legal wfi is a nop there, an illegal one ends the run with IllegalInstruction. -/
theorem test_terminal_wfi :
    seen (fun t => (t.pc, t.minstret)) (exec .wfi terminal) = some (0x80000004, 1) ∧
    stopped (exec .wfi { terminal with priv := .user }) = some (.inl (.trapped false 2 0x10500073 0x80000000)) := by
  decide +kernel

theorem witness_AtomicOperationsComplete :
    ready.cfg.extA = true ∧ (ready.setX 6 (-4)).grantedAll .atomic ((ready.setX 6 (-4)).getX 6) 4 ∧
    (ready.setX 6 (-4)).multipleOf ((ready.setX 6 (-4)).getX 6) 4 ∧ ready.cfg.xlen = .rv64 ∧
    (ready.setX 6 (-8)).grantedAll .atomic ((ready.setX 6 (-8)).getX 6) 8 ∧
    (ready.setX 6 (-8)).multipleOf ((ready.setX 6 (-8)).getX 6) 8 := by
  unfold State.grantedAll State.multipleOf; decide +kernel

theorem witness_ReservationsAreMadeAndUsed_lr :
    ready.cfg.extA = true ∧ (ready.setX 6 (-4)).grantedAll .load ((ready.setX 6 (-4)).getX 6) 4 ∧
    (ready.setX 6 (-4)).multipleOf ((ready.setX 6 (-4)).getX 6) 4 ∧ ready.cfg.xlen = .rv64 ∧
    (ready.setX 6 (-8)).grantedAll .load ((ready.setX 6 (-8)).getX 6) 8 ∧
    (ready.setX 6 (-8)).multipleOf ((ready.setX 6 (-8)).getX 6) 8 := by
  unfold State.grantedAll State.multipleOf; decide +kernel

theorem witness_ReservationsAreMadeAndUsed_sc :
    (let s := { ready.setX 6 0x1000 with reservation := some ⟨0x1000, 4⟩ }
     s.cfg.extA = true ∧ s.grantedAll .atomic (s.getX 6) 4 ∧ s.multipleOf (s.getX 6) 4 ∧
     s.reservation = some ⟨s.getX 6, 4⟩ ∧ s.cfg.scChoice = .pinned ∧ s.reservation ≠ some ⟨s.getX 6, 8⟩ ∧
     s.cfg.xlen = .rv64 ∧ s.grantedAll .atomic (s.getX 6) 8 ∧ s.multipleOf (s.getX 6) 8) ∧
    (let s := { ready.setX 6 0x1000 with reservation := some ⟨0x1000, 8⟩ }
     s.reservation = some ⟨s.getX 6, 8⟩ ∧ s.reservation ≠ some ⟨s.getX 6, 4⟩) ∧
    ((∀ k < 8, withDevice.forbidden .atomic (withDevice.getX 6 + BitVec.ofNat 64 k) = false) ∧
     withDevice.multipleOf (withDevice.getX 6) 8 ∧ withDevice.reservation ≠ some ⟨withDevice.getX 6, 8⟩ ∧
     (∀ k < 4, withDevice.forbidden .atomic (withDevice.getX 6 + BitVec.ofNat 64 k) = false) ∧
     withDevice.multipleOf (withDevice.getX 6) 4 ∧ withDevice.reservation ≠ some ⟨withDevice.getX 6, 4⟩) := by
  unfold State.grantedAll State.multipleOf; decide +kernel

/-- R382: an sc without a reservation fails, at a device byte too; nothing is accessed. -/
theorem test_sc_without_reservation_fails_at_a_device :
    seen (fun t => (t.getX 5, t.pc, t.mem, t.reservation)) (exec (.scW false false 5 6 7) withDevice) =
      some (1, 0x80000004, [], none) := by decide +kernel

theorem witness_SingleArithmeticCompletes :
    ready.singleOn ∧ ready.doubleOn ∧ ready.rounding 7 = some .nearestEven ∧ ready.rounding 4 = some .nearestMax := by
  unfold State.singleOn State.doubleOn; decide +kernel

theorem witness_DoubleArithmeticCompletes : ready.doubleOn ∧ ready.rounding 7 = some .nearestEven := by
  unfold State.doubleOn; decide +kernel

theorem witness_ComparisonsAndConversionsComplete :
    ready.singleOn ∧ ready.doubleOn ∧ ready.rounding 1 = some .towardZero ∧ ready.cfg.xlen = .rv64 := by
  unfold State.singleOn State.doubleOn; decide +kernel

/-- A pattern of each class of both signs, of the least and the greatest of its range where it has one. -/
theorem witness_MovesSignsAndClassesComplete :
    ready.singleOn ∧ ready.doubleOn ∧ ready.cfg.xlen = .rv64 ∧
    ([0xFF800000, 0xFF7FFFFF, 0x80800000, 0x807FFFFF, 0x80000001, 0x80000000, 0, 1, 0x007FFFFF, 0x00800000, 0x7F7FFFFF,
      0x7F800000, 0x7F800001, 0xFFBFFFFF, 0x7FC00000, 0xFFFFFFFF].all (· < 2 * Fp.single.signBit)) = true ∧
    0x800001 % Fp.single.signBit < Fp.single.infPattern ∧ 2 ^ Fp.single.fracBits ≤ 0x800000 ∧
    Fp.signalingPattern Fp.single 0xFFBFFFFF = true ∧ Fp.nanPattern Fp.single 0xFFC00000 = true ∧
    Fp.signalingPattern Fp.single 0xFFC00000 = false := by
  unfold State.singleOn State.doubleOn; decide +kernel

/-- R406: the ten classes, by the patterns at the ends of each. -/
theorem test_classes :
    [0xFF800000, 0xFF7FFFFF, 0x80800000, 0x807FFFFF, 0x80000001, 0x80000000, 0, 1, 0x007FFFFF, 0x00800000, 0x7F7FFFFF,
      0x7F800000, 0x7F800001, 0xFFBFFFFF, 0x7FC00000, 0xFFFFFFFF].map (Fp.classify Fp.single) =
      [0, 1, 1, 2, 2, 3, 4, 5, 5, 6, 6, 7, 8, 8, 9, 9] := by decide

theorem witness_SinglesAreBoxed :
    ready.cfg.extD = true ∧ (State.cfg { ready with cfg := { ready.cfg with extD := false } }).extD = false ∧
    (0xFFFFFFFF7FC00000#64).toNat / 2 ^ 32 = 0xFFFFFFFF ∧ (0xFFFFFFFE7FC00000#64).toNat / 2 ^ 32 ≠ 0xFFFFFFFF ∧
    (2 : FReg) ≠ 1 := by decide

/-- 1.0 + half an ulp (a tie), an overflow, and a value below the least subnormal number. -/
theorem witness_RoundingIsCorrect :
    (Fp.round Fp.single .nearestEven false (2 ^ 24 + 1) (-24)).2 = flagNX ∧
    (Fp.round Fp.single .nearestMax true (2 ^ 25) 104).2 &&& flagOF = flagOF ∧
    (Fp.round Fp.double .up false 1 (-1075)).2 &&& flagUF = flagUF := by decide +kernel

/-- 1.0, -0, the greatest single; x + y and x * y are not 0 and 0, y is 0 and is not, i is 0 and is not. -/
theorem witness_ArithmeticRoundsExactResults :
    Fp.finite Fp.single 0x3F800000 ∧ Fp.finite Fp.single 0x80000000 ∧ Fp.finite Fp.single 0x7F7FFFFF ∧
    Fp.number Fp.single 0x3F800000 ≠ 0 ∧ Fp.number Fp.single 0x80000000 = 0 ∧
    Fp.number Fp.single 0x3F800000 + Fp.number Fp.single 0xBF800000 = 0 ∧
    Fp.add Fp.single .nearestEven 0x3F800000 0x33800000 = (0x3F800000, flagNX) := by
  unfold Fp.finite; decide +kernel

theorem witness_RootsAndIntegerConversionsRound :
    Fp.finite Fp.double 0x4000000000000000 ∧ 0 < Fp.number Fp.double 0x4000000000000000 ∧
    Fp.number Fp.double 0xBFF0000000000000 < 0 ∧ Fp.number Fp.double 0x8000000000000000 = 0 ∧
    Fp.RoundedToInt .nearestEven (Fp.number Fp.double 0x4000000000000000) 2 ∧
    0xFFF0000000000000 < 2 * Fp.double.signBit ∧ Fp.infinitePattern Fp.double 0xFFF0000000000000 = true ∧
    Fp.nanPattern Fp.double 0x7FF0000000000001 = true ∧ Fp.signalingPattern Fp.double 0x7FF0000000000001 = true := by
  unfold Fp.finite Fp.RoundedToInt; decide +kernel

/-- A signaling NaN, infinities of both signs and zeros of both signs. -/
theorem witness_SpecialOperandsGiveSpecialResults :
    0xFF800000 < 2 * Fp.single.signBit ∧ Fp.nanPattern Fp.single 0x7F800001 = true ∧
    Fp.nanPattern Fp.single 0x7F800000 = false ∧ Fp.infinitePattern Fp.single 0x7F800000 = true ∧
    Fp.infinitePattern Fp.single 0xFF800000 = true ∧ Fp.finite Fp.single 0x80000000 ∧
    Fp.negative Fp.single 0x80000000 = true ∧ Fp.negative Fp.single 0 = false ∧
    Fp.number Fp.single 0xBF800000 < Fp.number Fp.single 0x3F800000 := by
  unfold Fp.finite; decide +kernel

theorem witness_ComparisonsAgreeWithValues :
    Fp.finite Fp.single 0x80000000 ∧ Fp.finite Fp.single 0x7F7FFFFF ∧
    Fp.infinitePattern Fp.single 0xFF800000 = true ∧ Fp.infinitePattern Fp.single 0x7F800000 = true ∧
    0x7F800001 < 2 * Fp.single.signBit ∧ Fp.single.infPattern < 0x7F800001 % Fp.single.signBit ∧
    0x7F800001 % Fp.single.signBit < Fp.single.nan := by
  unfold Fp.finite; decide +kernel

theorem witness_RetiredInstructionFrame :
    ([.add 1 2 3, .lw 1 0 4, .sw 1 0 4, .jal 1 8, .amoaddD false false 1 0 3, .faddD 7 1 2 3, .fsd 1 0 8, .cSwsp 1 4,
      .fenceI, .scW true true 1 0 2] : List Instr).all (fun i => retired ready i && !i.isCsr && !i.isReturn) = true ∧
    ready.stores (.sw 1 0 4) = some (4, 4) ∧ ready.atomics (.amoaddD false false 1 0 3) = some (0, 8) := by decide +kernel

theorem witness_RaisingInstructionFrame :
    ([.ecall, .ebreak, .lw 1 0 2, .sw 1 0 2, .faddS 5 1 2 3] : List Instr).all
      (fun i => raised ready i && !i.isCsr && !i.isReturn) = true ∧ ready.cfg.misaligned = .trap ∧
    ready.stores (.sw 1 0 2) = some (2, 4) ∧ ready.stores .ecall = none := by decide +kernel

/-- The case in which memory changes: a split store that faults at its last byte. -/
theorem witness_RaisingInstructionFrame_split :
    raised splitting (.sw 2 1 0) = true ∧ (Instr.sw 2 1 0).isCsr = false ∧ (Instr.sw 2 1 0).isReturn = false ∧
    splitting.stores (.sw 2 1 0) = some (0x100D, 4) ∧
    seen (fun t => (t.byte 0x100C, t.byte 0x100D, t.byte 0x100F, t.byte 0x1010)) (exec (.sw 2 1 0) splitting) =
      some (0, 0x44, 0x22, 0) ∧
    (∀ k < 4, splitting.norm 0x1011 ≠ splitting.norm (0x100D + BitVec.ofNat 64 k)) := by decide +kernel

end Sys2Proof.Tests
end

section
/-!
PROOFS of the family 10_state.md: the x registers (O15), and the registers that 3-bit fields name (O16).
-/

/-! ## Compressed forms and the gate -/

/-- The extension row of the compressed form of an instruction (R500). -/
def Sys2Proof.Ext.compressed : Sys2Proof.Ext → Sys2Proof.Ext
  | .base => .c
  | .f => .cf
  | .d => .cd
  | x => x

namespace Sys2Proof.Machine

open Sys2Proof

theorem Params.has_compressed {p : Params} (hC : p.extC = true) {x : Ext} (h : Params.has p x = true) :
    Params.has p x.compressed = true := by
  cases x
  case base => exact hC
  case f | d =>
    rw [Ext.compressed, Params.has, hC, Bool.true_and]
    exact h
  all_goals exact h

theorem isFloat_compressed (x : Ext) : Ext.isFloat x.compressed = Ext.isFloat x := by
  cases x <;> rfl

/-- With C, the gate lets a compressed form pass where it lets its expansion pass, if the form exists at this XLEN. -/
theorem State.permits_compressed {s : State} (hC : s.cfg.extC = true) {c e : Instr} (hext : c.ext = e.ext.compressed)
    (hxlen : c.xlenOnly = e.xlenOnly ∨ c.xlenOnly = some s.cfg.xlen) (hshamt : c.shamt = e.shamt)
    (h : s.permits e = true) : s.permits c = true := by
  simp only [State.permits, Params.available, Bool.and_eq_true] at h ⊢
  obtain ⟨⟨⟨hhas, hx⟩, hs⟩, hfp⟩ := h
  refine ⟨⟨⟨hext ▸ Params.has_compressed hC hhas, ?_⟩, hshamt ▸ hs⟩, ?_⟩
  · rcases hxlen with he | he
    · rwa [he]
    · simp [he]
  · rwa [hext, isFloat_compressed]

/-! ## Register numbers and immediates -/

/-- R24: a 3-bit field names register 8 + field. -/
theorem creg_toNat (r : CReg) : (creg r).toNat = 8 + r.toNat := by
  revert r
  decide

theorem creg_eq_ofNat (r : CReg) : creg r = BitVec.ofNat 5 (8 + r.toNat) := by
  rw [← creg_toNat, BitVec.ofNat_toNat, BitVec.setWidth_eq]

/-- Widening an immediate with its sign first does not change its sign extension. -/
theorem State.sext_signExtend (s : State) {n m : Nat} (hnm : n ≤ m) (hm : m ≤ 64) (v : BitVec n) :
    s.sext (v.signExtend m) = s.sext v := by
  rw [State.sext_eq_word s _ hm, State.sext_eq_word s _ (hnm.trans hm), BitVec.toInt_signExtend_of_le hnm]

/-- An unsigned immediate in a wider field has a clear sign bit: sign extension leaves its value. -/
theorem State.sext_setWidth (s : State) {n m : Nat} (hnm : n < m) (hm : m ≤ 64) (v : BitVec n) :
    s.sext (v.setWidth m) = s.zext v := by
  have hlt : 2 * v.toNat < 2 ^ m :=
    calc 2 * v.toNat < 2 ^ (n + 1) := by have := v.isLt; omega
      _ ≤ 2 ^ m := Nat.pow_le_pow_right (by decide) hnm
  rw [State.sext_eq_word s _ hm, State.zext_eq_word s _ (by omega),
    BitVec.toInt_eq_toNat_of_lt (by rwa [BitVec.toNat_setWidth_of_le hnm.le]), BitVec.toNat_setWidth_of_le hnm.le]

/-- The comparison of c.beqz with x0. -/
theorem State.compare_eq_zero (s : State) (i : Reg) :
    s.compare Alu.eq (s.getX i) (s.getX 0) = decide (s.getX i = 0) := by
  have hz : s.norm (s.getX i) = s.getX i := State.norm_getX s i
  rw [State.getX_zero, Bool.eq_iff_iff, decide_eq_true_eq]
  cases h : s.cfg.xlen
  · rw [State.norm_rv32 h] at hz
    simp only [State.compare, h, Alu.eq, beq_iff_eq]
    constructor
    · intro e; rw [← hz, e]; rfl
    · intro e; rw [e]
  · simp only [State.compare, h, Alu.eq, beq_iff_eq]

/-- The comparison of c.bnez with x0. -/
theorem State.compare_ne_zero (s : State) (i : Reg) :
    s.compare Alu.ne (s.getX i) (s.getX 0) = decide (s.getX i ≠ 0) := by
  have hne : s.compare Alu.ne (s.getX i) (s.getX 0) = !s.compare Alu.eq (s.getX i) (s.getX 0) := by
    cases h : s.cfg.xlen <;> simp only [State.compare, h] <;> rfl
  rw [hne, State.compare_eq_zero, decide_not]

/-! ## Ending as the expansion does

Results are compared where the long one retires, that is counts one more instruction than `n`: what raises an exception
counts none (`enterTrap_minstret`), so nothing is claimed of it. -/

/-- Where `long` retires, `short` ends in the same state but for the pc. -/
def ShortensTo (n : BitVec 64) (pc : State → Word) (short long : Result) : Prop :=
  ∀ t, long = .next t → t.minstret = n + 1 → short = .next { t with pc := pc t }

/-- Where the expansion retires, the compressed instruction ends in the same state but for the pc. -/
def EndsAs (s : State) (pc : State → Word) (compressed expansion : Instr) : Prop :=
  ShortensTo s.minstret pc (exec compressed s) (exec expansion s)

theorem shortensTo_raise {u : State} {n : BitVec 64} (hn : u.minstret = n) (pc : State → Word) (short : Result)
    (c : Cause) (v : Word) : ShortensTo n pc short (u.raise c v) := by
  intro t h ht
  obtain ⟨-, rfl⟩ := State.raise_next h
  rw [State.enterTrap_minstret, hn] at ht
  bv_omega

theorem shortensTo_refused (n : BitVec 64) (pc : State → Word) (short : Result) (r : Refusal) :
    ShortensTo n pc short (.refused r) := by
  intro t h
  cases h

/-- Both pass the gate, or the expansion is illegal and does not retire. -/
theorem shortensTo_gate {s : State} {pc : State → Word} {c e : Instr} {short long : Result}
    (hp : s.permits e = true → s.permits c = true) (h : ShortensTo s.minstret pc short long) :
    ShortensTo s.minstret pc (s.gate c short) (s.gate e long) := by
  cases he : s.permits e
  · rw [State.gate_of_not_permits he]
    exact shortensTo_raise rfl pc _ _ _
  · rwa [State.gate_of_permits he, State.gate_of_permits (hp he)]

/-! ### Sequential instructions -/

/-- The pc after a sequential compressed instruction (R503). -/
def pcPast (s : State) : State → Word := fun _ => s.norm (s.pc + 2)

theorem shortensTo_finish {s u : State} (hcfg : u.cfg = s.cfg) (hpc : u.pc = s.pc) (n : BitVec 64) :
    ShortensTo n (pcPast s) (u.finish 2) (u.finish 4) := by
  intro t h _
  cases h
  rw [State.finish, State.advance, State.norm_congr hcfg, hpc]
  rfl

theorem shortensTo_result (s : State) (rd : Reg) (v : Word) :
    ShortensTo s.minstret (pcPast s) (s.result 2 rd v) (s.result 4 rd v) :=
  shortensTo_finish (State.setX_cfg s rd v) (State.setX_pc s rd v) _

theorem shortensTo_opImm (s : State) (rd rs1 : Reg) {v w : Word} (h : w = v)
    (op : (n : Nat) → BitVec n → BitVec n → BitVec n) :
    ShortensTo s.minstret (pcPast s) (s.opImm 2 rd rs1 v op) (s.opImm 4 rd rs1 w op) :=
  h ▸ shortensTo_result s rd _

/-! ### Loads -/

theorem State.load_of_misaligned {s : State} {a : Word} {n : Nat}
    (h : ¬ (s.aligned a n = true ∨ s.cfg.misaligned = .split)) (k : Word → Result) :
    s.load a n k = s.raise .loadAddressMisaligned a := by
  obtain ⟨ha, hm⟩ := not_or.1 h
  cases hc : s.cfg.misaligned
  · simp only [State.load, ha, hc, Bool.false_eq_true, ↓reduceIte]
  · exact absurd hc hm

/-- A load that retires made its access, so any other continuation of it runs too. -/
theorem shortensTo_load {s : State} {pc : State → Word} {short long : Word → Result}
    (hk : ∀ v, ShortensTo s.minstret pc (short v) (long v)) (a : Word) (n : Nat) :
    ShortensTo s.minstret pc (s.load a n short) (s.load a n long) := by
  by_cases ha : s.aligned a n = true ∨ s.cfg.misaligned = .split
  · intro t h ht
    rcases State.load_next h with ⟨hg, hl⟩ | hr | hr
    · rw [State.load_of_granted hg ha]
      exact hk _ t hl ht
    · exact shortensTo_raise rfl pc _ _ _ t hr ht
    · exact shortensTo_raise rfl pc _ _ _ t hr ht
  · rw [State.load_of_misaligned ha long]
    exact shortensTo_raise rfl pc _ _ _

theorem shortensTo_loadX (s : State) (rd : Reg) {a b : Word} (h : b = a) (n : Nat) (extend : Word → Word) :
    ShortensTo s.minstret (pcPast s) (s.loadX 2 rd a n extend) (s.loadX 4 rd b n extend) :=
  h ▸ shortensTo_load (fun v => shortensTo_result s rd (extend v)) a n

theorem shortensTo_loadS (s : State) (rd : FReg) {a b : Word} (h : b = a) :
    ShortensTo s.minstret (pcPast s) (s.loadS 2 rd a) (s.loadS 4 rd b) := by
  subst h
  exact shortensTo_load (fun v => shortensTo_finish (u := s.setS rd (v.setWidth 32)) rfl rfl s.minstret) b 4

theorem shortensTo_loadD (s : State) (rd : FReg) {a b : Word} (h : b = a) :
    ShortensTo s.minstret (pcPast s) (s.loadD 2 rd a) (s.loadD 4 rd b) := by
  subst h
  exact shortensTo_load (fun v => shortensTo_finish (u := s.setF rd v) rfl rfl s.minstret) b 8

/-! ### Stores -/

/-- Byte by byte, a split store of either length writes the same, and stops at the same byte. -/
theorem shortensTo_splitStore {s u : State} (hcfg : u.cfg = s.cfg) (hpc : u.pc = s.pc) (hn : u.minstret = s.minstret)
    (a at_ : Word) (n : Nat) (v : Word) :
    ShortensTo s.minstret (pcPast s) (u.splitStore a at_ n v (fun t => t.finish 2))
      (u.splitStore a at_ n v (fun t => t.finish 4)) := by
  induction n generalizing u at_ v with
  | zero => exact shortensTo_finish hcfg hpc _
  | succ n ih =>
    cases hc : u.checkByte .store at_ <;> simp only [State.splitStore, hc]
    case ok => exact ih (u := u.setByte at_ (v.setWidth 8)) hcfg hpc hn (at_ + 1) (v >>> 8)
    case denied => exact shortensTo_raise hn _ _ _ _
    case device => exact shortensTo_refused _ _ _ _

theorem shortensTo_storeV (s : State) {a b : Word} (h : b = a) (n : Nat) (v : Word) :
    ShortensTo s.minstret (pcPast s) (s.storeV 2 a n v) (s.storeV 4 b n v) := by
  subst h
  cases ha : s.aligned b n
  · cases hm : s.cfg.misaligned <;>
      simp only [State.storeV, State.store, ha, hm, Bool.false_eq_true, ↓reduceIte]
    case trap => exact shortensTo_raise rfl _ _ _ _
    case split => exact shortensTo_splitStore rfl rfl rfl b b n v
  · cases hc : s.check .store b n <;> simp only [State.storeV, State.store, ha, hc, ↓reduceIte]
    case ok => exact shortensTo_finish (State.writeBytes_cfg ..) (State.writeBytes_pc ..) _
    case denied => exact shortensTo_raise rfl _ _ _ _
    case device => exact shortensTo_refused _ _ _ _

/-! ### Branches -/

/-- A taken branch goes where its expansion goes; one not taken goes on past its two bytes. -/
theorem shortensTo_branch (s : State) (taken : Bool) (off : BitVec 9) {pc : State → Word}
    (hpc : ∀ t : State, pc t = if taken then t.pc else pcPast s t) :
    ShortensTo s.minstret pc (s.branch 2 taken off) (s.branch 4 taken (off.signExtend 13)) := by
  cases taken
  · obtain rfl : pc = pcPast s := funext hpc
    exact shortensTo_finish rfl rfl _
  · obtain rfl : pc = State.pc := funext hpc
    intro t h _
    rwa [State.branch, State.sext_signExtend s (by decide) (by decide)] at h

/-! ## The instructions with 3-bit register fields (R24)

Each with its expansion (R500) on the registers that `creg` names. -/

/-- A compressed form and its expansion are both gated, at the rows `Ext.compressed` pairs; what is left to compare is
what the two gates guard. -/
theorem endsAs_of_gate {s : State} (hC : s.cfg.extC = true) {pc : State → Word} {c e : Instr} {short long : Result}
    (hc : exec c s = s.gate c short) (he : exec e s = s.gate e long) (hext : c.ext = e.ext.compressed)
    (hxlen : c.xlenOnly = e.xlenOnly ∨ c.xlenOnly = some s.cfg.xlen) (hshamt : c.shamt = e.shamt)
    (h : ShortensTo s.minstret pc short long) : EndsAs s pc c e := by
  rw [EndsAs, hc, he]
  exact shortensTo_gate (State.permits_compressed hC hext hxlen hshamt) h

theorem ea_setWidth (s : State) (i : Reg) {n : Nat} (hn : n < 12) (u : BitVec n) :
    s.ea i (s.sext (u.setWidth 12)) = s.ea i (s.zext u) := by
  rw [State.sext_setWidth s hn (by decide)]

section
variable {s : State} (hC : s.cfg.extC = true) (a b : CReg)
include hC

theorem cLw_endsAs_lw (u : BitVec 7) :
    EndsAs s (pcPast s) (.cLw a b u) (.lw (creg a) (creg b) (u.setWidth 12)) :=
  endsAs_of_gate hC rfl rfl rfl (.inl rfl) rfl (shortensTo_loadX s _ (ea_setWidth s _ (by decide) u) _ _)

theorem cSw_endsAs_sw (u : BitVec 7) :
    EndsAs s (pcPast s) (.cSw a b u) (.sw (creg a) (creg b) (u.setWidth 12)) :=
  endsAs_of_gate hC rfl rfl rfl (.inl rfl) rfl (shortensTo_storeV s (ea_setWidth s _ (by decide) u) _ _)

theorem cLd_endsAs_ld (u : BitVec 8) :
    EndsAs s (pcPast s) (.cLd a b u) (.ld (creg a) (creg b) (u.setWidth 12)) :=
  endsAs_of_gate hC rfl rfl rfl (.inl rfl) rfl (shortensTo_loadX s _ (ea_setWidth s _ (by decide) u) _ _)

theorem cSd_endsAs_sd (u : BitVec 8) :
    EndsAs s (pcPast s) (.cSd a b u) (.sd (creg a) (creg b) (u.setWidth 12)) :=
  endsAs_of_gate hC rfl rfl rfl (.inl rfl) rfl (shortensTo_storeV s (ea_setWidth s _ (by decide) u) _ _)

theorem cFlw_endsAs_flw (h32 : s.cfg.xlen = .rv32) (u : BitVec 7) :
    EndsAs s (pcPast s) (.cFlw a b u) (.flw (creg a) (creg b) (u.setWidth 12)) :=
  endsAs_of_gate hC rfl rfl rfl (.inr (congrArg some h32.symm)) rfl
    (shortensTo_loadS s _ (ea_setWidth s _ (by decide) u))

theorem cFsw_endsAs_fsw (h32 : s.cfg.xlen = .rv32) (u : BitVec 7) :
    EndsAs s (pcPast s) (.cFsw a b u) (.fsw (creg a) (creg b) (u.setWidth 12)) :=
  endsAs_of_gate hC rfl rfl rfl (.inr (congrArg some h32.symm)) rfl
    (shortensTo_storeV s (ea_setWidth s _ (by decide) u) _ _)

theorem cFld_endsAs_fld (u : BitVec 8) :
    EndsAs s (pcPast s) (.cFld a b u) (.fld (creg a) (creg b) (u.setWidth 12)) :=
  endsAs_of_gate hC rfl rfl rfl (.inl rfl) rfl (shortensTo_loadD s _ (ea_setWidth s _ (by decide) u))

theorem cFsd_endsAs_fsd (u : BitVec 8) :
    EndsAs s (pcPast s) (.cFsd a b u) (.fsd (creg a) (creg b) (u.setWidth 12)) :=
  endsAs_of_gate hC rfl rfl rfl (.inl rfl) rfl (shortensTo_storeV s (ea_setWidth s _ (by decide) u) _ _)

theorem cAddi4spn_endsAs_addi (u : BitVec 10) :
    EndsAs s (pcPast s) (.cAddi4spn a u) (.addi (creg a) 2 (u.setWidth 12)) :=
  endsAs_of_gate hC rfl rfl rfl (.inl rfl) rfl
    (shortensTo_opImm s _ _ (State.sext_setWidth s (by decide) (by decide) u) _)

theorem cAndi_endsAs_andi (imm : BitVec 6) :
    EndsAs s (pcPast s) (.cAndi a imm) (.andi (creg a) (creg a) (imm.signExtend 12)) :=
  endsAs_of_gate hC rfl rfl rfl (.inl rfl) rfl
    (shortensTo_opImm s _ _ (State.sext_signExtend s (by decide) (by decide) imm) _)

theorem cSrli_endsAs_srli (n : BitVec 6) : EndsAs s (pcPast s) (.cSrli a n) (.srli (creg a) (creg a) n) :=
  endsAs_of_gate hC rfl rfl rfl (.inl rfl) rfl (shortensTo_opImm s _ _ rfl _)

theorem cSrai_endsAs_srai (n : BitVec 6) : EndsAs s (pcPast s) (.cSrai a n) (.srai (creg a) (creg a) n) :=
  endsAs_of_gate hC rfl rfl rfl (.inl rfl) rfl (shortensTo_opImm s _ _ rfl _)

theorem cSub_endsAs_sub : EndsAs s (pcPast s) (.cSub a b) (.sub (creg a) (creg a) (creg b)) :=
  endsAs_of_gate hC rfl rfl rfl (.inl rfl) rfl (shortensTo_result s _ _)

theorem cXor_endsAs_xor : EndsAs s (pcPast s) (.cXor a b) (.xor (creg a) (creg a) (creg b)) :=
  endsAs_of_gate hC rfl rfl rfl (.inl rfl) rfl (shortensTo_result s _ _)

theorem cOr_endsAs_or : EndsAs s (pcPast s) (.cOr a b) (.or (creg a) (creg a) (creg b)) :=
  endsAs_of_gate hC rfl rfl rfl (.inl rfl) rfl (shortensTo_result s _ _)

theorem cAnd_endsAs_and : EndsAs s (pcPast s) (.cAnd a b) (.and (creg a) (creg a) (creg b)) :=
  endsAs_of_gate hC rfl rfl rfl (.inl rfl) rfl (shortensTo_result s _ _)

theorem cSubw_endsAs_subw : EndsAs s (pcPast s) (.cSubw a b) (.subw (creg a) (creg a) (creg b)) :=
  endsAs_of_gate hC rfl rfl rfl (.inl rfl) rfl (shortensTo_result s _ _)

theorem cAddw_endsAs_addw : EndsAs s (pcPast s) (.cAddw a b) (.addw (creg a) (creg a) (creg b)) :=
  endsAs_of_gate hC rfl rfl rfl (.inl rfl) rfl (shortensTo_result s _ _)

theorem cBeqz_endsAs_beq (off : BitVec 9) :
    EndsAs s (fun t => if s.getX (creg a) = 0 then t.pc else pcPast s t) (.cBeqz a off)
      (.beq (creg a) 0 (off.signExtend 13)) :=
  endsAs_of_gate hC rfl rfl rfl (.inl rfl) rfl
    (shortensTo_branch s _ off fun t => by simp only [State.compare_eq_zero, decide_eq_true_eq])

theorem cBnez_endsAs_bne (off : BitVec 9) :
    EndsAs s (fun t => if s.getX (creg a) = 0 then pcPast s t else t.pc) (.cBnez a off)
      (.bne (creg a) 0 (off.signExtend 13)) :=
  endsAs_of_gate hC rfl rfl rfl (.inl rfl) rfl
    (shortensTo_branch s _ off fun t => by
      simp only [State.compare_ne_zero, decide_eq_true_eq, ne_eq, ite_not])

end

/-- Settles O16: per instruction, the gate and then the shape that the compressed form shares with its expansion. -/
theorem compressedFieldsNameRegisters : Obligations.CompressedFieldsNameRegisters := by
  unfold Obligations.CompressedFieldsNameRegisters
  intro s a b u7 u8 u10 imm shamt off reg
  have hreg : reg = creg := funext fun r => (creg_eq_ofNat r).symm
  clear_value reg
  subst hreg
  exact ⟨creg_toNat a, rfl, rfl, rfl, fun hC =>
    ⟨cLw_endsAs_lw hC a b u7, cSw_endsAs_sw hC a b u7, cLd_endsAs_ld hC a b u8, cSd_endsAs_sd hC a b u8,
      fun h32 => ⟨cFlw_endsAs_flw hC a b h32 u7, cFsw_endsAs_fsw hC a b h32 u7⟩,
      cFld_endsAs_fld hC a b u8, cFsd_endsAs_fsd hC a b u8, cAddi4spn_endsAs_addi hC a u10,
      cAndi_endsAs_andi hC a imm, cSrli_endsAs_srli hC a shamt, cSrai_endsAs_srai hC a shamt,
      cSub_endsAs_sub hC a b, cXor_endsAs_xor hC a b, cOr_endsAs_or hC a b, cAnd_endsAs_and hC a b,
      cSubw_endsAs_subw hC a b, cAddw_endsAs_addw hC a b, cBeqz_endsAs_beq hC a off, cBnez_endsAs_bne hC a off⟩⟩

/-! ## The x registers (R21, R22) -/

theorem State.setX_zero (s : State) (v : Word) : s.setX 0 v = s := rfl

theorem State.getX_setX_self {s : State} {i : Reg} (h : i ≠ 0) (v : Word) :
    ((s.setX i v).getX i).toNat = v.toNat % 2 ^ s.width := by
  rw [State.getX_setX_same, if_neg h, State.norm_toNat, State.width]

/-- A write to an x register changes nothing but the x registers. -/
theorem State.setX_unchanged (s : State) (i : Reg) (v : Word) : s.setX i v = { s with x := (s.setX i v).x } := by
  unfold State.setX
  split <;> rfl

/-- Settles O15. -/
theorem registerFileReadsAndWrites : Obligations.RegisterFileReadsAndWrites := by
  unfold Obligations.RegisterFileReadsAndWrites
  intro s i j v r
  exact ⟨State.getX_zero s, State.setX_zero s v, fun hi => State.getX_setX_self hi v,
    fun hj => State.getX_setX_other s hj v, State.setX_unchanged s i v, creg_toNat r⟩

end Sys2Proof.Machine
end

section
/-!
PROOFS of the family 30_encoding.md: the offsets of stores, branches and jal (O5).
-/

namespace Sys2Proof

/-- A field of a field is a field of the whole. -/
theorem bits_bits {w n : Nat} (v : BitVec w) (lo lo' n' : Nat) (h : lo' + n' ≤ n) :
    bits (bits v lo n) lo' n' = bits v (lo + lo') n' := by
  apply BitVec.eq_of_getLsbD_eq
  intro i hi
  have hin : lo' + i < n := by omega
  simp only [bits, BitVec.getLsbD_extractLsb', hi, hin, decide_true, Bool.true_and, Nat.add_assoc]

/-! ## The offsets of a word -/

/-- The offset of a store, from the fields of the S format (R136). -/
def storeOffset (w : BitVec 32) : BitVec 12 := bits w 25 7 ++ bits w 7 5

/-- The offset of a branch, from the fields of the B format (R137). -/
def branchOffset (w : BitVec 32) : BitVec 13 := bits w 31 1 ++ bits w 7 1 ++ bits w 25 6 ++ bits w 8 4 ++ 0#1

/-- The offset of jal, from the fields of the J format (R139). -/
def jalOffset (w : BitVec 32) : BitVec 21 := bits w 31 1 ++ bits w 12 8 ++ bits w 20 1 ++ bits w 21 10 ++ 0#1

/-- A store, a branch or jal has the offset that its format reads in w; nothing is said of other instructions. -/
def Instr.OffsetOf (w : BitVec 32) : Instr → Prop
  | .sb _ _ o | .sh _ _ o | .sw _ _ o | .sd _ _ o | .fsw _ _ o | .fsd _ _ o => o = storeOffset w
  | .beq _ _ o | .bne _ _ o | .blt _ _ o | .bge _ _ o | .bltu _ _ o | .bgeu _ _ o => o = branchOffset w
  | .jal _ o => o = jalOffset w
  | _ => True

/-- The B format in the six fields of a word, as the decoder reads it. -/
theorem branchOffset_eq_fields (w : BitVec 32) :
    bits (bits w 25 7) 6 1 ++ bits (bits w 7 5) 0 1 ++ bits (bits w 25 7) 0 6 ++ bits (bits w 7 5) 1 4 ++ 0#1 =
      branchOffset w := by
  simp [bits_bits, branchOffset]

/-- The J format in the six fields of a word, as the decoder reads it. -/
theorem jalOffset_eq_fields (w : BitVec 32) :
    bits (bits w 25 7) 6 1 ++ bits w 15 5 ++ bits w 12 3 ++ bits (bits w 20 5) 0 1 ++ bits (bits w 25 7) 0 6 ++
      bits (bits w 20 5) 1 4 ++ 0#1 = jalOffset w := by
  apply BitVec.eq_of_getLsbD_eq
  intro i hi
  simp only [bits, jalOffset, BitVec.getLsbD_extractLsb', BitVec.getLsbD_append]
  interval_cases i <;> simp

/-! ## What the decoder reads -/

section
variable {w : BitVec 32} {rs2 rs1 : BitVec 5} {f3 : BitVec 3} {i : Instr}

theorem decodeStore_offset (h : decodeStore (bits w 25 7) rs2 rs1 f3 (bits w 7 5) = some i) : i.OffsetOf w := by
  unfold decodeStore at h
  split at h <;> cases h <;> rfl

theorem decodeStoreFp_offset (h : decodeStoreFp (bits w 25 7) rs2 rs1 f3 (bits w 7 5) = some i) : i.OffsetOf w := by
  unfold decodeStoreFp at h
  split at h <;> cases h <;> rfl

theorem decodeBranch_offset (h : decodeBranch (bits w 25 7) rs2 rs1 f3 (bits w 7 5) = some i) : i.OffsetOf w := by
  unfold decodeBranch at h
  split at h <;> cases h <;> exact branchOffset_eq_fields w

theorem decodeJal_offset {rd : BitVec 5}
    (h : decodeJal (bits w 25 7) (bits w 20 5) (bits w 15 5) (bits w 12 3) rd = some i) : i.OffsetOf w := by
  cases h
  exact jalOffset_eq_fields w

end

/-- Stores, branches and jal are rows of four opcodes; each of the other decoders gives none of them. -/
theorem decode32_offset {w : BitVec 32} {i : Instr} (h : decode32 w = some i) : i.OffsetOf w := by
  unfold decode32 decodeFields at h
  split at h
  case h_7 => exact decodeStore_offset h
  case h_8 => exact decodeStoreFp_offset h
  case h_18 => exact decodeBranch_offset h
  case h_20 => exact decodeJal_offset h
  all_goals
    simp only [decodeLoad, decodeLoadFp, decodeMiscMem, decodeOpImm, decodeAuipc, decodeOpImm32, decodeAmo, decodeOp,
      decodeLui, decodeOp32, decodeMadd, decodeMsub, decodeNmsub, decodeNmadd, decodeOpFp, decodeJalr,
      decodeSystem, reduceCtorEq] at h
  all_goals (repeat' split at h) <;> cases h <;> trivial

theorem decode_word_eq_instr {x : Xlen} {w : BitVec 32} {i : Instr} :
    decode x (.word w) = .instr i ↔ decode32 w = some i := by
  simp only [decode]
  cases decode32 w <;> simp

theorem decode_word_offset {x : Xlen} {w : BitVec 32} {i : Instr} (h : decode x (.word w) = .instr i) :
    i.OffsetOf w :=
  decode32_offset (decode_word_eq_instr.1 h)

/-! ## The values of an offset -/

/-- Appending a zero bit doubles the value. -/
theorem toInt_append_zero {n : Nat} (v : BitVec n) : (v ++ 0#1).toInt = 2 * v.toInt := by
  rw [BitVec.toInt_append]
  cases n with
  | zero => simp [BitVec.of_length_zero]
  | succ n => simp

/-- The range of n + 1 bits, and no odd number in it. -/
theorem toInt_append_zero_range {n : Nat} (v : BitVec n) :
    (v ++ 0#1).toInt % 2 = 0 ∧ -2 ^ n ≤ (v ++ 0#1).toInt ∧ (v ++ 0#1).toInt < 2 ^ n := by
  rw [toInt_append_zero]
  exact ⟨Int.mul_emod_right 2 v.toInt, BitVec.le_two_mul_toInt, BitVec.two_mul_toInt_lt⟩

theorem branchOffset_range (w : BitVec 32) :
    (branchOffset w).toInt % 2 = 0 ∧ -4096 ≤ (branchOffset w).toInt ∧ (branchOffset w).toInt ≤ 4094 := by
  obtain ⟨heven, hlow, hhigh⟩ := toInt_append_zero_range (bits w 31 1 ++ bits w 7 1 ++ bits w 25 6 ++ bits w 8 4)
  rw [← branchOffset] at heven hlow hhigh
  exact ⟨heven, hlow, by omega⟩

theorem jalOffset_range (w : BitVec 32) :
    (jalOffset w).toInt % 2 = 0 ∧ -1048576 ≤ (jalOffset w).toInt ∧ (jalOffset w).toInt ≤ 1048574 := by
  obtain ⟨heven, hlow, hhigh⟩ := toInt_append_zero_range (bits w 31 1 ++ bits w 12 8 ++ bits w 20 1 ++ bits w 21 10)
  rw [← jalOffset] at heven hlow hhigh
  exact ⟨heven, hlow, by omega⟩

namespace Machine

/-- Settles O5: the fields by the inversion of the decoder, the values from the form `v ++ 0#1`, and the sign extension by
`State.sext_eq_word`. -/
theorem offsetsAreAssembledFromFields : Obligations.OffsetsAreAssembledFromFields := by
  unfold Obligations.OffsetsAreAssembledFromFields
  intro s x w rs1 rs2 rd f2 st br j
  simp only [List.mem_cons, List.not_mem_nil, or_false]
  refine ⟨?stores, ?branches, ?jal, ⟨BitVec.le_toInt st, Int.le_of_lt_add_one (BitVec.toInt_lt (x := st))⟩,
    State.sext_eq_word s st (by decide), State.sext_eq_word s br (by decide), State.sext_eq_word s j (by decide)⟩
  case stores =>
    rintro (h | h | h | h | h | h) <;> exact decode_word_offset h
  case branches =>
    intro h
    obtain rfl : br = branchOffset w := by
      rcases h with h | h | h | h | h | h <;> exact decode_word_offset h
    exact ⟨rfl, branchOffset_range w⟩
  case jal =>
    intro h
    obtain rfl : j = jalOffset w := decode_word_offset h
    exact ⟨rfl, jalOffset_range w⟩

end Machine
end Sys2Proof
end

section
/-!
PROOFS of the family 60_exceptions.md: mret and sret (O43).
-/

namespace Sys2Proof.Machine

open Sys2Proof

/-! ## The gate of the returns -/

/-- An integer instruction of every XLEN and without a shift amount passes the gate where its extension is present. -/
theorem State.permits_of_has {s : State} {i : Instr} (hhas : Params.has s.cfg i.ext = true)
    (hxlen : i.xlenOnly = none) (hshamt : i.shamt = 0) (hfloat : Ext.isFloat i.ext = false) : s.permits i = true := by
  simp [State.permits, Params.available, hhas, hxlen, hshamt, hfloat]

/-- The gate adds nothing to a condition that implies it: below both, the instruction is illegal. -/
theorem State.gate_of_condition {s : State} {i : Instr} {c : Bool} (h : c = true → s.permits i = true) (r : Result) :
    s.gate i (if c then r else s.illegal i) = if c then r else s.illegal i := by
  cases hp : s.permits i with
  | true => exact State.gate_of_permits hp _
  | false =>
    have hc : ¬ c = true := fun hc => Bool.false_ne_true (hp.symm.trans (h hc))
    rw [State.gate_of_not_permits hp, if_neg hc]

/-! ## Where the returns are legal (R643 (g)) -/

theorem State.mretLegal_iff (s : State) : s.mretLegal = true ↔ s.priv = .machine := by
  simp [State.mretLegal]

theorem State.sretLegal_iff (s : State) :
    s.sretLegal = true ↔
      s.cfg.hasS = true ∧ (s.priv = .machine ∨ (s.priv = .supervisor ∧ s.mstatus.tsr = false)) := by
  simp [State.sretLegal]

/-- Without S-mode, in U-mode, and in S-mode with TSR on, sret is not legal. -/
theorem State.sretLegal_eq_false {s : State}
    (h : s.cfg.hasS = false ∨ s.priv = .user ∨ (s.priv = .supervisor ∧ s.mstatus.tsr = true)) :
    s.sretLegal = false := by
  rcases h with hS | hU | ⟨hpriv, htsr⟩
  · simp [State.sretLegal, hS]
  · simp [State.sretLegal, hU]
  · simp [State.sretLegal, hpriv, htsr]

theorem exec_mret (s : State) :
    exec .mret s = if s.mretLegal then .next s.returnM.retire else s.illegal .mret :=
  State.gate_of_condition (fun _ => State.permits_of_has rfl rfl rfl rfl) _

/-- The gate asks for S-mode, as the legality of sret does. -/
theorem exec_sret (s : State) :
    exec .sret s = if s.sretLegal then .next s.returnS.retire else s.illegal .sret :=
  State.gate_of_condition
    (fun h => State.permits_of_has (i := .sret) (s.sretLegal_iff.1 h).1 rfl rfl rfl) _

/-! ## What the returns restore (R655, R656) -/

/-- A masked mepc or sepc is read back whole (R35, R36). -/
theorem State.epcsMasked_iff (s : State) :
    s.epcsMasked = true ↔ s.epcOf s.mepc = s.mepc ∧ s.epcOf s.sepc = s.sepc := by
  simp [State.epcsMasked]

theorem State.mppAfterReturn_of_hasU {s : State} (hU : s.cfg.hasU = true) : s.mppAfterReturn = .user :=
  if_pos hU

theorem State.mppAfterReturn_of_not_hasU {s : State} (hU : s.cfg.hasU = false) :
    s.mppAfterReturn = s.mstatus.mpp :=
  if_neg (Bool.eq_false_iff.1 hU)

/-- S needs U, so a machine without U has M-mode only. -/
theorem Params.hasMode_of_not_hasU {p : Params} {m : Priv} (hlegal : Params.legal p = true) (hU : p.hasU = false)
    (hm : Params.hasMode p m = true) : m = .machine := by
  have hS : p.hasS = false := by
    cases hS : p.hasS with
    | false => rfl
    | true => simp [Params.legal, hU, hS] at hlegal
  cases m with
  | machine => rfl
  | supervisor => exact absurd (hS.symm.trans hm) Bool.false_ne_true
  | user => exact absurd (hU.symm.trans hm) Bool.false_ne_true

theorem State.mpp_eq_machine {s : State} (hlegal : Params.legal s.cfg = true) (hU : s.cfg.hasU = false)
    (hmodes : s.modesExist = true) : s.mstatus.mpp = .machine := by
  simp only [State.modesExist, Bool.and_eq_true] at hmodes
  obtain ⟨-, hmpp⟩ := hmodes
  exact Params.hasMode_of_not_hasU hlegal hU hmpp

/-- Settles O43: a legal return ends in the state of its assignments, retired; elsewhere it is illegal. -/
theorem trapReturnsRestore : Obligations.TrapReturnsRestore := by
  unfold Obligations.TrapReturnsRestore
  refine ⟨fun s => ⟨?mret, ?mretIllegal⟩, fun s => ⟨?sret, ?sretIllegal⟩⟩
  case mret =>
    intro hM hmask
    obtain ⟨hmepc, -⟩ := s.epcsMasked_iff.1 hmask
    have hrun : exec .mret s = .next s.returnM.retire := by
      rw [exec_mret, if_pos (s.mretLegal_iff.2 hM)]
    exact ⟨s.returnM.retire, hrun, hmepc, rfl, rfl, rfl,
      State.mppAfterReturn_of_hasU, State.mppAfterReturn_of_not_hasU,
      fun hU hlegal hmodes => (State.mppAfterReturn_of_not_hasU hU).trans (State.mpp_eq_machine hlegal hU hmodes),
      rfl, rfl, rfl⟩
  case mretIllegal =>
    intro hM
    rw [exec_mret, if_neg (mt s.mretLegal_iff.1 hM)]
  case sret =>
    intro hS hmask hmode
    obtain ⟨-, hsepc⟩ := s.epcsMasked_iff.1 hmask
    have hrun : exec .sret s = .next s.returnS.retire := by
      rw [exec_sret, if_pos (s.sretLegal_iff.2 ⟨hS, hmode⟩)]
    exact ⟨s.returnS.retire, hrun, hsepc, fun hspp => if_pos hspp, fun hspp => if_neg (Bool.eq_false_iff.1 hspp),
      rfl, rfl, rfl, rfl, rfl, rfl⟩
  case sretIllegal =>
    intro h
    rw [exec_sret, if_neg (Bool.eq_false_iff.1 (State.sretLegal_eq_false h))]

end Sys2Proof.Machine
end

section
/-!
PROOFS of the encoding (O1 to O4): every format is read back field by field, in both directions.
-/

namespace Sys2Proof

/-! ## From fields to code and back -/

theorem decode32_word32 (f7 : BitVec 7) (rs2 rs1 : BitVec 5) (f3 : BitVec 3) (rd : BitVec 5) (op : BitVec 7) :
    decode32 (word32 f7 rs2 rs1 f3 rd op) = decodeFields f7 rs2 rs1 f3 rd op := by
  rw [decode32, bits_word32_f7, bits_word32_rs2, bits_word32_rs1, bits_word32_f3, bits_word32_rd, bits_word32_op]

theorem decode16_half16 (x : Xlen) (f3 : BitVec 3) (b : BitVec 1) (a l : BitVec 5) (q : BitVec 2) :
    decode16 x (half16 f3 b a l q) = decodeParts x f3 b a l q := by
  rw [decode16, bits_half16_f3, bits_half16_b, bits_half16_a, bits_half16_l, bits_half16_q]

theorem decode_half_eq_instr {x : Xlen} {h : BitVec 16} {i : Instr} :
    decode x (.half h) = .instr i ↔ decode16 x h = some i := by
  simp only [decode]
  cases decode16 x h <;> simp

/-- The code of an instruction decodes to it when its format reads the fields so. -/
def ReadsBack (x : Xlen) (i : Instr) : Prop := decode x (encode i) = .instr i

section Word

variable {x : Xlen} {f7 : BitVec 7} {rs2 rs1 : BitVec 5} {f3 : BitVec 3} {rd : BitVec 5} {op : BitVec 7}

theorem readsBack_of_fields {i : Instr} (he : encode i = .word (word32 f7 rs2 rs1 f3 rd op))
    (hd : decodeFields f7 rs2 rs1 f3 rd op = some i) : ReadsBack x i := by
  rw [ReadsBack, he, decode_word_eq_instr, decode32_word32, hd]

/-! ### The immediates of the 32-bit formats (R134 to R140) -/

theorem iImmediate_of_fields (v : BitVec 12) : bits v 5 7 ++ bits v 0 5 = v := by
  ext i hi; grind

theorem uImmediate_of_fields (v : BitVec 20) : bits v 13 7 ++ bits v 8 5 ++ bits v 3 5 ++ bits v 0 3 = v := by
  ext i hi; grind

theorem bImmediate_of_fields {v : BitVec 13} (h : bits v 0 1 = 0#1) :
    bits (bits v 12 1 ++ bits v 5 6) 6 1 ++ bits (bits v 1 4 ++ bits v 11 1) 0 1 ++
      bits (bits v 12 1 ++ bits v 5 6) 0 6 ++ bits (bits v 1 4 ++ bits v 11 1) 1 4 ++ 0#1 = v := by
  rw [← h]
  ext i hi; grind

theorem jImmediate_of_fields {v : BitVec 21} (h : bits v 0 1 = 0#1) :
    bits (bits v 20 1 ++ bits v 5 6) 6 1 ++ bits v 15 5 ++ bits v 12 3 ++ bits (bits v 1 4 ++ bits v 11 1) 0 1 ++
      bits (bits v 20 1 ++ bits v 5 6) 0 6 ++ bits (bits v 1 4 ++ bits v 11 1) 1 4 ++ 0#1 = v := by
  rw [← h]
  ext i hi; grind

/-! ### The formats -/

theorem readsBack_iFormat {i : Instr} {v : BitVec 12}
    (he : encode i = .word (word32 (bits v 5 7) (bits v 0 5) rs1 f3 rd op))
    (hd : ∀ f7 rs2, f7 ++ rs2 = v → decodeFields f7 rs2 rs1 f3 rd op = some i) : ReadsBack x i :=
  readsBack_of_fields he (hd _ _ (iImmediate_of_fields v))

theorem readsBack_sFormat {i : Instr} {v : BitVec 12}
    (he : encode i = .word (word32 (bits v 5 7) rs2 rs1 f3 (bits v 0 5) op))
    (hd : ∀ f7 rd, f7 ++ rd = v → decodeFields f7 rs2 rs1 f3 rd op = some i) : ReadsBack x i :=
  readsBack_of_fields he (hd _ _ (iImmediate_of_fields v))

theorem readsBack_uFormat {i : Instr} {v : BitVec 20}
    (he : encode i = .word (word32 (bits v 13 7) (bits v 8 5) (bits v 3 5) (bits v 0 3) rd op))
    (hd : ∀ f7 rs2 rs1 f3, f7 ++ rs2 ++ rs1 ++ f3 = v → decodeFields f7 rs2 rs1 f3 rd op = some i) :
    ReadsBack x i :=
  readsBack_of_fields he (hd _ _ _ _ (uImmediate_of_fields v))

theorem readsBack_bFormat {i : Instr} {v : BitVec 13} (hv : (bits v 0 1 == 0) = true)
    (he : encode i = .word (word32 (bits v 12 1 ++ bits v 5 6) rs2 rs1 f3 (bits v 1 4 ++ bits v 11 1) op))
    (hd : ∀ f7 rd, bits f7 6 1 ++ bits rd 0 1 ++ bits f7 0 6 ++ bits rd 1 4 ++ 0#1 = v →
      decodeFields f7 rs2 rs1 f3 rd op = some i) : ReadsBack x i :=
  readsBack_of_fields he (hd _ _ (bImmediate_of_fields (eq_of_beq hv)))

theorem readsBack_shift {i : Instr} {v f6 : BitVec 6}
    (he : encode i = .word (word32 (f6 ++ bits v 5 1) (bits v 0 5) rs1 f3 rd op))
    (hd : ∀ f7 rs2, bits f7 1 6 = f6 → bits f7 0 1 ++ rs2 = v → decodeFields f7 rs2 rs1 f3 rd op = some i) :
    ReadsBack x i := by
  refine readsBack_of_fields he (hd _ _ ?_ ?_) <;> ext k hk <;> grind

/-- The aq and rl bits of an atomic are bits 26 and 25 (R133). -/
theorem readsBack_atomic {i : Instr} {f5 : BitVec 5} {aq rl : Bool}
    (he : encode i = .word (word32 (f5 ++ BitVec.ofBool aq ++ BitVec.ofBool rl) rs2 rs1 f3 rd op))
    (hd : ∀ f7, bits f7 2 5 = f5 → f7.getLsbD 1 = aq → f7.getLsbD 0 = rl →
      decodeFields f7 rs2 rs1 f3 rd op = some i) : ReadsBack x i := by
  refine readsBack_of_fields he (hd _ ?_ (by grind) (by grind))
  ext k hk; grind

/-- The third source register of a fused operation is in bits 31:27 (R134). -/
theorem readsBack_fused {i : Instr} {fmt : BitVec 2} {rs3 : FReg}
    (he : encode i = .word (word32 (rs3 ++ fmt) rs2 rs1 f3 rd op))
    (hd : ∀ f7, bits f7 0 2 = fmt → bits f7 2 5 = rs3 → decodeFields f7 rs2 rs1 f3 rd op = some i) :
    ReadsBack x i := by
  refine readsBack_of_fields he (hd _ ?_ ?_) <;> ext k hk <;> grind

end Word

theorem readsBack_fence {x : Xlen} (p s : BitVec 4) : ReadsBack x (.fence p s) := by
  have hfm : bits (0b0000#4 ++ bits p 1 3) 3 4 = 0b0000#4 := by ext i hi; grind
  have hpred : bits (0b0000#4 ++ bits p 1 3) 0 3 ++ bits (bits p 0 1 ++ s) 4 1 = p := by ext i hi; grind
  have hsucc : bits (bits p 0 1 ++ s) 0 4 = s := by ext i hi; grind
  refine readsBack_of_fields rfl ?_
  simp only [decodeFields, decodeMiscMem]
  rw [hfm, hpred, hsucc]
  rfl

/-! ### The offsets of the 16-bit formats (R151 to R162) -/

theorem clWordOffset_of_fields {v : BitVec 7} (hv : (bits v 0 2 == 0) = true) (r r1 : CReg) :
    bits (bits v 2 1 ++ bits v 6 1 ++ r) 3 1 ++ bits v 5 1 ++ bits (bits v 3 2 ++ r1) 3 2 ++
      bits (bits v 2 1 ++ bits v 6 1 ++ r) 4 1 ++ 0#2 = v := by
  rw [← show bits v 0 2 = 0#2 from eq_of_beq hv]
  apply BitVec.eq_of_getLsbD_eq
  intro k hk
  simp only [bits, BitVec.getLsbD_extractLsb', BitVec.getLsbD_append]
  interval_cases k <;> simp

theorem clDoubleOffset_of_fields {v : BitVec 8} (hv : (bits v 0 3 == 0) = true) (r r1 : CReg) :
    bits (bits v 6 2 ++ r) 3 2 ++ bits v 5 1 ++ bits (bits v 3 2 ++ r1) 3 2 ++ 0#3 = v := by
  rw [← show bits v 0 3 = 0#3 from eq_of_beq hv]
  ext k hk; grind

theorem cbOffset_of_fields {v : BitVec 9} (hv : (bits v 0 1 == 0) = true) (r1 : CReg) :
    bits v 8 1 ++ bits (bits v 6 2 ++ bits v 1 2 ++ bits v 5 1) 3 2 ++
      bits (bits v 6 2 ++ bits v 1 2 ++ bits v 5 1) 0 1 ++ bits (bits v 3 2 ++ r1) 3 2 ++
      bits (bits v 6 2 ++ bits v 1 2 ++ bits v 5 1) 1 2 ++ 0#1 = v := by
  rw [← show bits v 0 1 = 0#1 from eq_of_beq hv]
  apply BitVec.eq_of_getLsbD_eq
  intro k hk
  simp only [bits, BitVec.getLsbD_extractLsb', BitVec.getLsbD_append]
  interval_cases k <;> simp

theorem cjOffset_of_fields {v : BitVec 12} (hv : (bits v 0 1 == 0) = true) :
    bits v 11 1 ++ bits (bits v 4 1 ++ bits v 8 2 ++ bits v 10 1 ++ bits v 6 1) 1 1 ++
      bits (bits v 4 1 ++ bits v 8 2 ++ bits v 10 1 ++ bits v 6 1) 2 2 ++
      bits (bits v 7 1 ++ bits v 1 3 ++ bits v 5 1) 4 1 ++
      bits (bits v 4 1 ++ bits v 8 2 ++ bits v 10 1 ++ bits v 6 1) 0 1 ++
      bits (bits v 7 1 ++ bits v 1 3 ++ bits v 5 1) 0 1 ++
      bits (bits v 4 1 ++ bits v 8 2 ++ bits v 10 1 ++ bits v 6 1) 4 1 ++
      bits (bits v 7 1 ++ bits v 1 3 ++ bits v 5 1) 1 3 ++ 0#1 = v := by
  rw [← show bits v 0 1 = 0#1 from eq_of_beq hv]
  apply BitVec.eq_of_getLsbD_eq
  intro k hk
  simp only [bits, BitVec.getLsbD_extractLsb', BitVec.getLsbD_append]
  interval_cases k <;> simp

theorem spWordOffset_of_fields {v : BitVec 8} (hv : (bits v 0 2 == 0) = true) :
    bits (bits v 2 3 ++ bits v 6 2) 0 2 ++ bits v 5 1 ++ bits (bits v 2 3 ++ bits v 6 2) 2 3 ++ 0#2 = v := by
  rw [← show bits v 0 2 = 0#2 from eq_of_beq hv]
  ext k hk; grind

theorem spDoubleOffset_of_fields {v : BitVec 9} (hv : (bits v 0 3 == 0) = true) :
    bits (bits v 3 2 ++ bits v 6 3) 0 3 ++ bits v 5 1 ++ bits (bits v 3 2 ++ bits v 6 3) 3 2 ++ 0#3 = v := by
  rw [← show bits v 0 3 = 0#3 from eq_of_beq hv]
  ext k hk; grind

theorem addi16spImmediate_of_fields {v : BitVec 10} (hv : (bits v 0 4 == 0) = true) :
    bits v 9 1 ++ bits (bits v 4 1 ++ bits v 6 1 ++ bits v 7 2 ++ bits v 5 1) 1 2 ++
      bits (bits v 4 1 ++ bits v 6 1 ++ bits v 7 2 ++ bits v 5 1) 3 1 ++
      bits (bits v 4 1 ++ bits v 6 1 ++ bits v 7 2 ++ bits v 5 1) 0 1 ++
      bits (bits v 4 1 ++ bits v 6 1 ++ bits v 7 2 ++ bits v 5 1) 4 1 ++ 0#4 = v := by
  rw [← show bits v 0 4 = 0#4 from eq_of_beq hv]
  apply BitVec.eq_of_getLsbD_eq
  intro k hk
  simp only [bits, BitVec.getLsbD_extractLsb', BitVec.getLsbD_append]
  interval_cases k <;> simp

theorem addi4spnImmediate_of_fields {v : BitVec 10} (hv : (bits v 0 2 == 0) = true) (r : CReg) :
    bits (bits v 4 1 ++ bits v 6 4) 0 4 ++ bits v 5 1 ++ bits (bits v 4 1 ++ bits v 6 4) 4 1 ++
      bits (bits v 2 1 ++ bits v 3 1 ++ r) 3 1 ++ bits (bits v 2 1 ++ bits v 3 1 ++ r) 4 1 ++ 0#2 = v := by
  rw [← show bits v 0 2 = 0#2 from eq_of_beq hv]
  apply BitVec.eq_of_getLsbD_eq
  intro k hk
  simp only [bits, BitVec.getLsbD_extractLsb', BitVec.getLsbD_append]
  interval_cases k <;> simp

/-! ### The 16-bit formats (R150 to R163) -/

section Half

variable {x : Xlen} {f3 : BitVec 3} {b : BitVec 1} {a l : BitVec 5} {q : BitVec 2} {i : Instr} {r r1 : CReg}

theorem readsBack_of_parts (he : encode i = .half (half16 f3 b a l q))
    (hd : decodeParts x f3 b a l q = some i) : ReadsBack x i := by
  rw [ReadsBack, he, decode_half_eq_instr, decode16_half16, hd]

theorem readsBack_ciFormat {v : BitVec 6} (he : encode i = .half (half16 f3 (bits v 5 1) a (bits v 0 5) q))
    (hd : ∀ b l, b ++ l = v → decodeParts x f3 b a l q = some i) : ReadsBack x i := by
  refine readsBack_of_parts he (hd _ _ ?_)
  ext k hk; grind

/-- A 3-bit destination below a 2-bit function, and a 6-bit immediate (R162). -/
theorem readsBack_cbAlu {v : BitVec 6} {f2 : BitVec 2}
    (he : encode i = .half (half16 0b100#3 (bits v 5 1) (f2 ++ r) (bits v 0 5) 0b01#2))
    (hd : ∀ b a l, bits a 3 2 = f2 → bits a 0 3 = r → b ++ l = v → decodeQ1Alu b a l = some i) :
    ReadsBack x i := by
  refine readsBack_of_parts he (hd _ _ _ ?_ ?_ ?_) <;> ext k hk <;> grind

theorem readsBack_caFormat {f2 : BitVec 2}
    (he : encode i = .half (half16 0b100#3 b (0b11#2 ++ r) (f2 ++ r1) 0b01#2))
    (hd : ∀ a l, bits a 3 2 = 0b11#2 → bits l 3 2 = f2 → bits a 0 3 = r → bits l 0 3 = r1 →
      decodeQ1Alu b a l = some i) : ReadsBack x i := by
  refine readsBack_of_parts he (hd _ _ ?_ ?_ ?_ ?_) <;> ext k hk <;> grind

/-- A load or store of 4 bytes with 3-bit registers: uimm[5:3] and uimm[2|6]. -/
theorem readsBack_clWord {v : BitVec 7} (hv : (bits v 0 2 == 0) = true)
    (he : encode i = .half (half16 f3 (bits v 5 1) (bits v 3 2 ++ r1) (bits v 2 1 ++ bits v 6 1 ++ r) 0b00#2))
    (hd : ∀ b a l, bits l 0 3 = r → bits a 0 3 = r1 →
      bits l 3 1 ++ b ++ bits a 3 2 ++ bits l 4 1 ++ 0#2 = v → decodeParts x f3 b a l 0b00#2 = some i) :
    ReadsBack x i := by
  refine readsBack_of_parts he (hd _ _ _ ?_ ?_ (clWordOffset_of_fields hv r r1)) <;> ext k hk <;> grind

/-- A load or store of 8 bytes with 3-bit registers: uimm[5:3] and uimm[7:6]. -/
theorem readsBack_clDouble {v : BitVec 8} (hv : (bits v 0 3 == 0) = true)
    (he : encode i = .half (half16 f3 (bits v 5 1) (bits v 3 2 ++ r1) (bits v 6 2 ++ r) 0b00#2))
    (hd : ∀ b a l, bits l 0 3 = r → bits a 0 3 = r1 →
      bits l 3 2 ++ b ++ bits a 3 2 ++ 0#3 = v → decodeParts x f3 b a l 0b00#2 = some i) : ReadsBack x i := by
  refine readsBack_of_parts he (hd _ _ _ ?_ ?_ (clDoubleOffset_of_fields hv r r1)) <;> ext k hk <;> grind

theorem readsBack_cbBranch {v : BitVec 9} (hv : (bits v 0 1 == 0) = true)
    (he : encode i =
      .half (half16 f3 (bits v 8 1) (bits v 3 2 ++ r1) (bits v 6 2 ++ bits v 1 2 ++ bits v 5 1) 0b01#2))
    (hd : ∀ b a l, bits a 0 3 = r1 → b ++ bits l 3 2 ++ bits l 0 1 ++ bits a 3 2 ++ bits l 1 2 ++ 0#1 = v →
      decodeParts x f3 b a l 0b01#2 = some i) : ReadsBack x i := by
  refine readsBack_of_parts he (hd _ _ _ ?_ (cbOffset_of_fields hv r1))
  ext k hk; grind

theorem readsBack_cjFormat {v : BitVec 12} (hv : (bits v 0 1 == 0) = true)
    (he : encode i =
      .half (half16 f3 (bits v 11 1) (bits v 4 1 ++ bits v 8 2 ++ bits v 10 1 ++ bits v 6 1)
        (bits v 7 1 ++ bits v 1 3 ++ bits v 5 1) 0b01#2))
    (hd : ∀ b a l, b ++ bits a 1 1 ++ bits a 2 2 ++ bits l 4 1 ++ bits a 0 1 ++ bits l 0 1 ++ bits a 4 1 ++ bits l 1 3 ++
      0#1 = v → decodeParts x f3 b a l 0b01#2 = some i) : ReadsBack x i :=
  readsBack_of_parts he (hd _ _ _ (cjOffset_of_fields hv))

end Half

theorem when_of_true {c : Bool} (h : c = true) (i : Instr) : when c i = some i := by rw [when, if_pos h]

theorem readsBack_cAddi16sp {x : Xlen} {v : BitVec 10} (hv : (bits v 0 4 == 0) = true) (hne : (v != 0) = true) :
    ReadsBack x (.cAddi16sp v) := by
  refine readsBack_of_parts rfl ?_
  simp only [decodeParts, decodeQ1, ↓reduceIte]
  rw [addi16spImmediate_of_fields hv, when_of_true hne]

theorem readsBack_cAddi4spn {x : Xlen} {r : CReg} {v : BitVec 10} (hv : (bits v 0 2 == 0) = true)
    (hne : (v != 0) = true) : ReadsBack x (.cAddi4spn r v) := by
  have hr : bits (bits v 2 1 ++ bits v 3 1 ++ r) 0 3 = r := by ext i hi; grind
  refine readsBack_of_parts rfl ?_
  simp only [decodeParts, decodeQ0]
  rw [addi4spnImmediate_of_fields hv, hr, when_of_true hne]

/-! ## Every well-formed instruction is read back -/

theorem readsBack_of_wf {x : Xlen} {i : Instr} (hwf : i.wf = true) (hx : i.xlenOnly = none ∨ i.xlenOnly = some x) :
    ReadsBack x i := by
  have hx64 : i.xlenOnly = some .rv64 → x = .rv64 := fun h => by simpa [h, eq_comm] using hx
  have hx32 : i.xlenOnly = some .rv32 → x = .rv32 := fun h => by simpa [h, eq_comm] using hx
  cases i
  case addi | addiw | andi | ori | slti | sltiu | xori | jalr | lb | lbu | ld | lh | lhu | lw | lwu | flw | fld | csrrc
      | csrrci | csrrs | csrrsi | csrrw | csrrwi =>
    exact readsBack_iFormat rfl fun _ _ h => by subst h; rfl
  case sb | sd | sh | sw | fsw | fsd => exact readsBack_sFormat rfl fun _ _ h => by subst h; rfl
  case auipc | lui => exact readsBack_uFormat rfl fun _ _ _ _ h => by subst h; rfl
  case beq | bge | bgeu | blt | bltu | bne => exact readsBack_bFormat hwf rfl fun _ _ h => by subst h; rfl
  case jal rd v => exact readsBack_of_fields rfl (congrArg (some ∘ Instr.jal rd) (jImmediate_of_fields (eq_of_beq hwf)))
  case slli | srai | srli =>
    exact readsBack_shift rfl fun _ _ h hv => by subst hv; simp only [decodeFields, decodeOpImm, h]
  case fence p s => exact readsBack_fence p s
  case amoaddD | amoaddW | amoandD | amoandW | amomaxD | amomaxW | amomaxuD | amomaxuW | amominD | amominW | amominuD
      | amominuW | amoorD | amoorW | amoswapD | amoswapW | amoxorD | amoxorW | lrD | lrW | scD | scW =>
    exact readsBack_atomic rfl fun f7 h haq hrl => by subst haq hrl; simp only [decodeFields, decodeAmo, h]
  case fmaddS | fmaddD =>
    exact readsBack_fused rfl fun _ h h3 => by subst h3; simp only [decodeFields, decodeMadd, h]
  case fmsubS | fmsubD =>
    exact readsBack_fused rfl fun _ h h3 => by subst h3; simp only [decodeFields, decodeMsub, h]
  case fnmsubS | fnmsubD =>
    exact readsBack_fused rfl fun _ h h3 => by subst h3; simp only [decodeFields, decodeNmsub, h]
  case fnmaddS | fnmaddD =>
    exact readsBack_fused rfl fun _ h h3 => by subst h3; simp only [decodeFields, decodeNmadd, h]
  case cAdd rd rs2 =>
    obtain ⟨hrd, hrs2⟩ := Bool.and_eq_true_iff.1 hwf
    have hrs2 : rs2 ≠ 0 := by simpa using hrs2
    exact readsBack_of_parts rfl ((if_neg hrs2).trans (when_of_true hrd _))
  case cMv rd rs2 =>
    have hrs2 : rs2 ≠ 0 := bne_iff_ne.1 hwf
    exact readsBack_of_parts rfl (if_neg hrs2)
  case cJr rs1 => exact readsBack_of_parts rfl (when_of_true hwf _)
  case cJalr rs1 =>
    have hrs1 : rs1 ≠ 0 := bne_iff_ne.1 hwf
    exact readsBack_of_parts rfl (if_neg hrs1)
  case cAddi | cLi | cSlli => exact readsBack_ciFormat rfl fun _ _ h => by subst h; rfl
  case cAddiw rd v =>
    obtain rfl := hx64 rfl
    exact readsBack_ciFormat rfl fun _ _ h => by subst h; exact when_of_true hwf _
  case cLui rd v =>
    obtain ⟨hrd, hv⟩ := Bool.and_eq_true_iff.1 hwf
    have hrd : rd ≠ 2#5 := by simpa using hrd
    exact readsBack_ciFormat rfl fun b l h => by subst h; exact (if_neg hrd).trans (when_of_true hv _)
  case cAndi | cSrli | cSrai =>
    exact readsBack_cbAlu rfl fun _ _ _ h hr hv => by subst hr hv; simp only [decodeQ1Alu, h]
  case cSub | cXor | cOr | cAnd | cSubw | cAddw =>
    exact readsBack_caFormat rfl fun _ _ h h2 hr hr2 => by subst hr hr2; simp only [decodeQ1Alu, h, h2]; rfl
  case cBeqz | cBnez => exact readsBack_cbBranch hwf rfl fun _ _ _ hr hv => by subst hr hv; rfl
  case cJ => exact readsBack_cjFormat hwf rfl fun _ _ _ hv => by subst hv; rfl
  case cJal =>
    obtain rfl := hx32 rfl
    exact readsBack_cjFormat hwf rfl fun _ _ _ hv => by subst hv; rfl
  case cLw | cSw => exact readsBack_clWord hwf rfl fun _ _ _ hr hr1 hv => by subst hr hr1 hv; rfl
  case cFlw | cFsw =>
    obtain rfl := hx32 rfl
    exact readsBack_clWord hwf rfl fun _ _ _ hr hr1 hv => by subst hr hr1 hv; rfl
  case cFld | cFsd => exact readsBack_clDouble hwf rfl fun _ _ _ hr hr1 hv => by subst hr hr1 hv; rfl
  case cLd | cSd =>
    obtain rfl := hx64 rfl
    exact readsBack_clDouble hwf rfl fun _ _ _ hr hr1 hv => by subst hr hr1 hv; rfl
  case cLwsp rd v =>
    obtain ⟨hv, hrd⟩ := Bool.and_eq_true_iff.1 hwf
    exact readsBack_of_parts rfl
      ((when_of_true hrd _).trans (congrArg (some ∘ Instr.cLwsp rd) (spWordOffset_of_fields hv)))
  case cFlwsp rd v =>
    obtain rfl := hx32 rfl
    exact readsBack_of_parts rfl (congrArg (some ∘ Instr.cFlwsp rd) (spWordOffset_of_fields hwf))
  case cSwsp rs2 v => exact readsBack_of_parts rfl (congrArg (some ∘ Instr.cSwsp rs2) (spWordOffset_of_fields hwf))
  case cFswsp rs2 v =>
    obtain rfl := hx32 rfl
    exact readsBack_of_parts rfl (congrArg (some ∘ Instr.cFswsp rs2) (spWordOffset_of_fields hwf))
  case cLdsp rd v =>
    obtain rfl := hx64 rfl
    obtain ⟨hv, hrd⟩ := Bool.and_eq_true_iff.1 hwf
    exact readsBack_of_parts rfl
      ((when_of_true hrd _).trans (congrArg (some ∘ Instr.cLdsp rd) (spDoubleOffset_of_fields hv)))
  case cFldsp rd v => exact readsBack_of_parts rfl (congrArg (some ∘ Instr.cFldsp rd) (spDoubleOffset_of_fields hwf))
  case cSdsp rs2 v =>
    obtain rfl := hx64 rfl
    exact readsBack_of_parts rfl (congrArg (some ∘ Instr.cSdsp rs2) (spDoubleOffset_of_fields hwf))
  case cFsdsp rs2 v =>
    exact readsBack_of_parts rfl (congrArg (some ∘ Instr.cFsdsp rs2) (spDoubleOffset_of_fields hwf))
  case cAddi16sp v =>
    obtain ⟨hv, hne⟩ := Bool.and_eq_true_iff.1 hwf
    exact readsBack_cAddi16sp hv hne
  case cAddi4spn r v =>
    obtain ⟨hv, hne⟩ := Bool.and_eq_true_iff.1 hwf
    exact readsBack_cAddi4spn hv hne
  case cEbreak => exact readsBack_of_parts rfl rfl
  all_goals exact readsBack_of_fields rfl rfl

/-- Settles O1, format by format. -/
theorem encodedInstructionsDecode : Obligations.EncodedInstructionsDecode := by
  unfold Obligations.EncodedInstructionsDecode
  intro x i hwf hx
  exact readsBack_of_wf hwf hx

end Sys2Proof
end

section
namespace Sys2Proof

/-! ## What decodes is encoded so -/

/-- The instruction is well-formed and has these bits. -/
def EncodesTo (c : Code) (i : Instr) : Prop := encode i = c ∧ i.wf = true

theorem bits_append_low {n m : Nat} (a : BitVec n) (b : BitVec m) : bits (a ++ b) 0 m = b := by
  ext k hk; grind

theorem bits_append_high {n m : Nat} (a : BitVec n) (b : BitVec m) : bits (a ++ b) m n = a := by
  ext k hk; grind

/-! ### The 32-bit formats -/

section

variable {f7 : BitVec 7} {rs2 rs1 : BitVec 5} {f3 : BitVec 3} {rd op : BitVec 5} {i : Instr}

theorem encodesTo_iFormat {op : BitVec 7}
    (he : encode i = .word (word32 (bits (f7 ++ rs2) 5 7) (bits (f7 ++ rs2) 0 5) rs1 f3 rd op)) (hwf : i.wf = true) :
    EncodesTo (.word (word32 f7 rs2 rs1 f3 rd op)) i := by
  rw [bits_append_high, bits_append_low] at he
  exact ⟨he, hwf⟩

theorem encodesTo_sFormat {op : BitVec 7}
    (he : encode i = .word (word32 (bits (f7 ++ rd) 5 7) rs2 rs1 f3 (bits (f7 ++ rd) 0 5) op)) (hwf : i.wf = true) :
    EncodesTo (.word (word32 f7 rs2 rs1 f3 rd op)) i := by
  rw [bits_append_high, bits_append_low] at he
  exact ⟨he, hwf⟩

theorem decodeLoad_encodes (h : decodeLoad f7 rs2 rs1 f3 rd = some i) :
    EncodesTo (.word (word32 f7 rs2 rs1 f3 rd 0b0000011#7)) i := by
  unfold decodeLoad at h
  split at h <;> cases h <;> exact encodesTo_iFormat rfl rfl

theorem decodeLoadFp_encodes (h : decodeLoadFp f7 rs2 rs1 f3 rd = some i) :
    EncodesTo (.word (word32 f7 rs2 rs1 f3 rd 0b0000111#7)) i := by
  unfold decodeLoadFp at h
  split at h <;> cases h <;> exact encodesTo_iFormat rfl rfl

theorem decodeMiscMem_encodes (h : decodeMiscMem f7 rs2 rs1 f3 rd = some i) :
    EncodesTo (.word (word32 f7 rs2 rs1 f3 rd 0b0001111#7)) i := by
  unfold decodeMiscMem at h
  split at h
  · split at h <;> cases h
    next hfm =>
      refine ⟨?_, rfl⟩
      simp only [encode]
      congr 2
      · rw [← hfm]
        ext k hk; grind
      · ext k hk; grind
  · split at h <;> cases h
    exact ⟨rfl, rfl⟩
  · cases h

theorem encodesTo_shift {f6 : BitVec 6} {op : BitVec 7} (h : bits f7 1 6 = f6)
    (he : encode i = .word (word32 (f6 ++ bits (bits f7 0 1 ++ rs2) 5 1) (bits (bits f7 0 1 ++ rs2) 0 5) rs1 f3 rd op))
    (hwf : i.wf = true) : EncodesTo (.word (word32 f7 rs2 rs1 f3 rd op)) i := by
  subst h
  refine ⟨he.trans ?_, hwf⟩
  congr 2 <;> ext k hk <;> grind

theorem decodeOpImm_encodes (h : decodeOpImm f7 rs2 rs1 f3 rd = some i) :
    EncodesTo (.word (word32 f7 rs2 rs1 f3 rd 0b0010011#7)) i := by
  unfold decodeOpImm at h
  split at h
  case h_2 | h_6 =>
    split at h <;> cases h <;> next hf => exact encodesTo_shift hf rfl rfl
  all_goals cases h; exact encodesTo_iFormat rfl rfl

theorem encodesTo_uFormat {op : BitVec 7}
    (he : encode i = .word (word32 (bits (f7 ++ rs2 ++ rs1 ++ f3) 13 7) (bits (f7 ++ rs2 ++ rs1 ++ f3) 8 5)
      (bits (f7 ++ rs2 ++ rs1 ++ f3) 3 5) (bits (f7 ++ rs2 ++ rs1 ++ f3) 0 3) rd op)) (hwf : i.wf = true) :
    EncodesTo (.word (word32 f7 rs2 rs1 f3 rd op)) i := by
  refine ⟨he.trans ?_, hwf⟩
  congr 2 <;> ext k hk <;> grind

theorem decodeAuipc_encodes (h : decodeAuipc f7 rs2 rs1 f3 rd = some i) :
    EncodesTo (.word (word32 f7 rs2 rs1 f3 rd 0b0010111#7)) i := by
  cases h
  exact encodesTo_uFormat rfl rfl

theorem decodeLui_encodes (h : decodeLui f7 rs2 rs1 f3 rd = some i) :
    EncodesTo (.word (word32 f7 rs2 rs1 f3 rd 0b0110111#7)) i := by
  cases h
  exact encodesTo_uFormat rfl rfl

theorem decodeOpImm32_encodes (h : decodeOpImm32 f7 rs2 rs1 f3 rd = some i) :
    EncodesTo (.word (word32 f7 rs2 rs1 f3 rd 0b0011011#7)) i := by
  unfold decodeOpImm32 at h
  split at h
  · cases h; exact encodesTo_iFormat rfl rfl
  · split at h <;> cases h; exact ⟨rfl, rfl⟩
  · split at h <;> cases h <;> exact ⟨rfl, rfl⟩
  · cases h

theorem decodeStore_encodes (h : decodeStore f7 rs2 rs1 f3 rd = some i) :
    EncodesTo (.word (word32 f7 rs2 rs1 f3 rd 0b0100011#7)) i := by
  unfold decodeStore at h
  split at h <;> cases h <;> exact encodesTo_sFormat rfl rfl

theorem decodeStoreFp_encodes (h : decodeStoreFp f7 rs2 rs1 f3 rd = some i) :
    EncodesTo (.word (word32 f7 rs2 rs1 f3 rd 0b0100111#7)) i := by
  unfold decodeStoreFp at h
  split at h <;> cases h <;> exact encodesTo_sFormat rfl rfl

theorem encodesTo_atomic {f5 : BitVec 5} {op : BitVec 7} (h : bits f7 2 5 = f5)
    (he : encode i = .word (word32 (f5 ++ BitVec.ofBool (f7.getLsbD 1) ++ BitVec.ofBool (f7.getLsbD 0)) rs2 rs1 f3 rd op))
    (hwf : i.wf = true) : EncodesTo (.word (word32 f7 rs2 rs1 f3 rd op)) i := by
  subst h
  refine ⟨he.trans ?_, hwf⟩
  congr 2
  ext k hk; grind

theorem decodeAmo_encodes (h : decodeAmo f7 rs2 rs1 f3 rd = some i) :
    EncodesTo (.word (word32 f7 rs2 rs1 f3 rd 0b0101111#7)) i := by
  unfold decodeAmo at h
  split at h
  case h_19 | h_20 => 
    next hf => split at h <;> cases h; exact encodesTo_atomic hf rfl rfl
  case h_23 => cases h
  all_goals next hf => cases h; exact encodesTo_atomic hf rfl rfl

theorem decodeOp_encodes (h : decodeOp f7 rs2 rs1 f3 rd = some i) :
    EncodesTo (.word (word32 f7 rs2 rs1 f3 rd 0b0110011#7)) i := by
  unfold decodeOp at h
  split at h <;> cases h <;> exact ⟨rfl, rfl⟩

theorem decodeOp32_encodes (h : decodeOp32 f7 rs2 rs1 f3 rd = some i) :
    EncodesTo (.word (word32 f7 rs2 rs1 f3 rd 0b0111011#7)) i := by
  unfold decodeOp32 at h
  split at h <;> cases h <;> exact ⟨rfl, rfl⟩

theorem encodesTo_fused {fmt : BitVec 2} {op : BitVec 7} (h : bits f7 0 2 = fmt)
    (he : encode i = .word (word32 (bits f7 2 5 ++ fmt) rs2 rs1 f3 rd op)) (hwf : i.wf = true) :
    EncodesTo (.word (word32 f7 rs2 rs1 f3 rd op)) i := by
  subst h
  refine ⟨he.trans ?_, hwf⟩
  congr 2
  ext k hk; grind

theorem decodeMadd_encodes (h : decodeMadd f7 rs2 rs1 f3 rd = some i) :
    EncodesTo (.word (word32 f7 rs2 rs1 f3 rd 0b1000011#7)) i := by
  unfold decodeMadd at h
  split at h <;> cases h <;> next hf => exact encodesTo_fused hf rfl rfl

theorem decodeMsub_encodes (h : decodeMsub f7 rs2 rs1 f3 rd = some i) :
    EncodesTo (.word (word32 f7 rs2 rs1 f3 rd 0b1000111#7)) i := by
  unfold decodeMsub at h
  split at h <;> cases h <;> next hf => exact encodesTo_fused hf rfl rfl

theorem decodeNmsub_encodes (h : decodeNmsub f7 rs2 rs1 f3 rd = some i) :
    EncodesTo (.word (word32 f7 rs2 rs1 f3 rd 0b1001011#7)) i := by
  unfold decodeNmsub at h
  split at h <;> cases h <;> next hf => exact encodesTo_fused hf rfl rfl

theorem decodeNmadd_encodes (h : decodeNmadd f7 rs2 rs1 f3 rd = some i) :
    EncodesTo (.word (word32 f7 rs2 rs1 f3 rd 0b1001111#7)) i := by
  unfold decodeNmadd at h
  split at h <;> cases h <;> next hf => exact encodesTo_fused hf rfl rfl

theorem decodeOpFp_encodes (h : decodeOpFp f7 rs2 rs1 f3 rd = some i) :
    EncodesTo (.word (word32 f7 rs2 rs1 f3 rd 0b1010011#7)) i := by
  unfold decodeOpFp at h
  split at h <;> (try split at h) <;> cases h <;> exact ⟨rfl, rfl⟩

theorem bFields_of_offset (f7 : BitVec 7) (rd : BitVec 5) {v : BitVec 13}
    (hv : v = bits f7 6 1 ++ bits rd 0 1 ++ bits f7 0 6 ++ bits rd 1 4 ++ 0#1) :
    bits v 12 1 ++ bits v 5 6 = f7 ∧ bits v 1 4 ++ bits v 11 1 = rd := by
  subst hv
  constructor
  all_goals
    apply BitVec.eq_of_getLsbD_eq
    intro k hk
    simp only [bits, BitVec.getLsbD_extractLsb', BitVec.getLsbD_append]
    interval_cases k <;> simp

theorem encodesTo_bFormat {v : BitVec 13} {op : BitVec 7}
    (hv : v = bits f7 6 1 ++ bits rd 0 1 ++ bits f7 0 6 ++ bits rd 1 4 ++ 0#1)
    (he : encode i = .word (word32 (bits v 12 1 ++ bits v 5 6) rs2 rs1 f3 (bits v 1 4 ++ bits v 11 1) op))
    (hwf : i.wf = (bits v 0 1 == 0)) : EncodesTo (.word (word32 f7 rs2 rs1 f3 rd op)) i := by
  obtain ⟨hf7, hrd⟩ := bFields_of_offset f7 rd hv
  rw [hf7, hrd] at he
  exact ⟨he, hwf.trans (beq_iff_eq.2 (hv ▸ bits_append_low _ 0#1))⟩

theorem decodeBranch_encodes (h : decodeBranch f7 rs2 rs1 f3 rd = some i) :
    EncodesTo (.word (word32 f7 rs2 rs1 f3 rd 0b1100011#7)) i := by
  unfold decodeBranch at h
  split at h <;> cases h <;> exact encodesTo_bFormat rfl rfl rfl

theorem decodeJalr_encodes (h : decodeJalr f7 rs2 rs1 f3 rd = some i) :
    EncodesTo (.word (word32 f7 rs2 rs1 f3 rd 0b1100111#7)) i := by
  unfold decodeJalr at h
  split at h <;> cases h
  exact encodesTo_iFormat rfl rfl

theorem jFields_of_offset (f7 : BitVec 7) (rs2 rs1 : BitVec 5) (f3 : BitVec 3) {v : BitVec 21}
    (hv : v = bits f7 6 1 ++ rs1 ++ f3 ++ bits rs2 0 1 ++ bits f7 0 6 ++ bits rs2 1 4 ++ 0#1) :
    bits v 20 1 ++ bits v 5 6 = f7 ∧ bits v 1 4 ++ bits v 11 1 = rs2 ∧ bits v 15 5 = rs1 ∧ bits v 12 3 = f3 := by
  subst hv
  refine ⟨?_, ?_, ?_, ?_⟩
  all_goals
    apply BitVec.eq_of_getLsbD_eq
    intro k hk
    simp only [bits, BitVec.getLsbD_extractLsb', BitVec.getLsbD_append]
    interval_cases k <;> simp

theorem decodeJal_encodes (h : decodeJal f7 rs2 rs1 f3 rd = some i) :
    EncodesTo (.word (word32 f7 rs2 rs1 f3 rd 0b1101111#7)) i := by
  cases h
  refine ⟨?_, beq_iff_eq.2 (bits_append_low _ 0#1)⟩
  obtain ⟨hf7, hrs2, hrs1, hf3⟩ := jFields_of_offset f7 rs2 rs1 f3 rfl
  simp only [encode]
  rw [hf7, hrs2, hrs1, hf3]

theorem decodeSystem_encodes (h : decodeSystem f7 rs2 rs1 f3 rd = some i) :
    EncodesTo (.word (word32 f7 rs2 rs1 f3 rd 0b1110011#7)) i := by
  unfold decodeSystem at h
  split at h
  case h_1 => split at h <;> cases h <;> exact ⟨rfl, rfl⟩
  case h_8 => cases h
  all_goals cases h; exact encodesTo_iFormat rfl rfl

end

theorem decode32_encodes {w : BitVec 32} {i : Instr} (h : decode32 w = some i) : EncodesTo (.word w) i := by
  rw [← word32_bits w] at h ⊢
  rw [decode32_word32] at h
  generalize bits w 0 7 = op at h ⊢
  unfold decodeFields at h
  split at h
  · exact decodeLoad_encodes h
  · exact decodeLoadFp_encodes h
  · exact decodeMiscMem_encodes h
  · exact decodeOpImm_encodes h
  · exact decodeAuipc_encodes h
  · exact decodeOpImm32_encodes h
  · exact decodeStore_encodes h
  · exact decodeStoreFp_encodes h
  · exact decodeAmo_encodes h
  · exact decodeOp_encodes h
  · exact decodeLui_encodes h
  · exact decodeOp32_encodes h
  · exact decodeMadd_encodes h
  · exact decodeMsub_encodes h
  · exact decodeNmsub_encodes h
  · exact decodeNmadd_encodes h
  · exact decodeOpFp_encodes h
  · exact decodeBranch_encodes h
  · exact decodeJalr_encodes h
  · exact decodeJal_encodes h
  · exact decodeSystem_encodes h
  · cases h

/-! ### The 16-bit formats -/

theorem when_eq_some {c : Bool} {i j : Instr} (h : when c i = some j) : c = true ∧ i = j := by
  unfold when at h
  split at h
  · next hc => exact ⟨hc, Option.some.inj h⟩
  · cases h

section

variable {x : Xlen} {f3 : BitVec 3} {b : BitVec 1} {a l : BitVec 5} {q : BitVec 2} {i : Instr}

theorem clWordFields_of_offset (b : BitVec 1) (a l : BitVec 5) {v : BitVec 7}
    (hv : v = bits l 3 1 ++ b ++ bits a 3 2 ++ bits l 4 1 ++ 0#2) :
    bits v 5 1 = b ∧ bits v 3 2 ++ bits a 0 3 = a ∧ bits v 2 1 ++ bits v 6 1 ++ bits l 0 3 = l ∧ bits v 0 2 = 0#2 := by
  subst hv
  refine ⟨?_, ?_, ?_, ?_⟩
  all_goals
    apply BitVec.eq_of_getLsbD_eq
    intro k hk
    simp only [bits, BitVec.getLsbD_extractLsb', BitVec.getLsbD_append]
    interval_cases k <;> simp

theorem clDoubleFields_of_offset (b : BitVec 1) (a l : BitVec 5) {v : BitVec 8}
    (hv : v = bits l 3 2 ++ b ++ bits a 3 2 ++ 0#3) :
    bits v 5 1 = b ∧ bits v 3 2 ++ bits a 0 3 = a ∧ bits v 6 2 ++ bits l 0 3 = l ∧ bits v 0 3 = 0#3 := by
  subst hv
  refine ⟨?_, ?_, ?_, ?_⟩
  all_goals
    apply BitVec.eq_of_getLsbD_eq
    intro k hk
    simp only [bits, BitVec.getLsbD_extractLsb', BitVec.getLsbD_append]
    interval_cases k <;> simp

theorem cbFields_of_offset (b : BitVec 1) (a l : BitVec 5) {v : BitVec 9}
    (hv : v = b ++ bits l 3 2 ++ bits l 0 1 ++ bits a 3 2 ++ bits l 1 2 ++ 0#1) :
    bits v 8 1 = b ∧ bits v 3 2 ++ bits a 0 3 = a ∧ bits v 6 2 ++ bits v 1 2 ++ bits v 5 1 = l ∧
      bits v 0 1 = 0#1 := by
  subst hv
  refine ⟨?_, ?_, ?_, ?_⟩
  all_goals
    apply BitVec.eq_of_getLsbD_eq
    intro k hk
    simp only [bits, BitVec.getLsbD_extractLsb', BitVec.getLsbD_append]
    interval_cases k <;> simp

theorem cjFields_of_offset (b : BitVec 1) (a l : BitVec 5) {v : BitVec 12}
    (hv : v = b ++ bits a 1 1 ++ bits a 2 2 ++ bits l 4 1 ++ bits a 0 1 ++ bits l 0 1 ++ bits a 4 1 ++ bits l 1 3 ++
      0#1) :
    bits v 11 1 = b ∧ bits v 4 1 ++ bits v 8 2 ++ bits v 10 1 ++ bits v 6 1 = a ∧
      bits v 7 1 ++ bits v 1 3 ++ bits v 5 1 = l ∧ bits v 0 1 = 0#1 := by
  subst hv
  refine ⟨?_, ?_, ?_, ?_⟩
  all_goals
    apply BitVec.eq_of_getLsbD_eq
    intro k hk
    simp only [bits, BitVec.getLsbD_extractLsb', BitVec.getLsbD_append]
    interval_cases k <;> simp

theorem spWordFields_of_offset (b : BitVec 1) (field : BitVec 5) {v : BitVec 8}
    (hv : v = bits field 0 2 ++ b ++ bits field 2 3 ++ 0#2) :
    bits v 5 1 = b ∧ bits v 2 3 ++ bits v 6 2 = field ∧ bits v 0 2 = 0#2 := by
  subst hv
  refine ⟨?_, ?_, ?_⟩
  all_goals
    apply BitVec.eq_of_getLsbD_eq
    intro k hk
    simp only [bits, BitVec.getLsbD_extractLsb', BitVec.getLsbD_append]
    interval_cases k <;> simp

theorem spDoubleFields_of_offset (b : BitVec 1) (field : BitVec 5) {v : BitVec 9}
    (hv : v = bits field 0 3 ++ b ++ bits field 3 2 ++ 0#3) :
    bits v 5 1 = b ∧ bits v 3 2 ++ bits v 6 3 = field ∧ bits v 0 3 = 0#3 := by
  subst hv
  refine ⟨?_, ?_, ?_⟩
  all_goals
    apply BitVec.eq_of_getLsbD_eq
    intro k hk
    simp only [bits, BitVec.getLsbD_extractLsb', BitVec.getLsbD_append]
    interval_cases k <;> simp

theorem addi4spnFields_of_immediate (b : BitVec 1) (a l : BitVec 5) {v : BitVec 10}
    (hv : v = bits a 0 4 ++ b ++ bits a 4 1 ++ bits l 3 1 ++ bits l 4 1 ++ 0#2) :
    bits v 5 1 = b ∧ bits v 4 1 ++ bits v 6 4 = a ∧ bits v 2 1 ++ bits v 3 1 ++ bits l 0 3 = l ∧ bits v 0 2 = 0#2 := by
  subst hv
  refine ⟨?_, ?_, ?_, ?_⟩
  all_goals
    apply BitVec.eq_of_getLsbD_eq
    intro k hk
    simp only [bits, BitVec.getLsbD_extractLsb', BitVec.getLsbD_append]
    interval_cases k <;> simp

theorem addi16spFields_of_immediate (b : BitVec 1) (l : BitVec 5) {v : BitVec 10}
    (hv : v = b ++ bits l 1 2 ++ bits l 3 1 ++ bits l 0 1 ++ bits l 4 1 ++ 0#4) :
    bits v 9 1 = b ∧ bits v 4 1 ++ bits v 6 1 ++ bits v 7 2 ++ bits v 5 1 = l ∧ bits v 0 4 = 0#4 := by
  subst hv
  refine ⟨?_, ?_, ?_⟩
  all_goals
    apply BitVec.eq_of_getLsbD_eq
    intro k hk
    simp only [bits, BitVec.getLsbD_extractLsb', BitVec.getLsbD_append]
    interval_cases k <;> simp

/-! The formats: `he` is the row of the encoder with the offset that the decoder assembled, `hwf` the check of its low
bits. -/

theorem encodesTo_clWord {v : BitVec 7} (hv : v = bits l 3 1 ++ b ++ bits a 3 2 ++ bits l 4 1 ++ 0#2)
    (he : encode i =
      .half (half16 f3 (bits v 5 1) (bits v 3 2 ++ bits a 0 3) (bits v 2 1 ++ bits v 6 1 ++ bits l 0 3) q))
    (hwf : i.wf = (bits v 0 2 == 0)) : EncodesTo (.half (half16 f3 b a l q)) i := by
  obtain ⟨hb, ha, hl, h0⟩ := clWordFields_of_offset b a l hv
  rw [hb, ha, hl] at he
  exact ⟨he, hwf.trans (beq_iff_eq.2 h0)⟩

theorem encodesTo_clDouble {v : BitVec 8} (hv : v = bits l 3 2 ++ b ++ bits a 3 2 ++ 0#3)
    (he : encode i = .half (half16 f3 (bits v 5 1) (bits v 3 2 ++ bits a 0 3) (bits v 6 2 ++ bits l 0 3) q))
    (hwf : i.wf = (bits v 0 3 == 0)) : EncodesTo (.half (half16 f3 b a l q)) i := by
  obtain ⟨hb, ha, hl, h0⟩ := clDoubleFields_of_offset b a l hv
  rw [hb, ha, hl] at he
  exact ⟨he, hwf.trans (beq_iff_eq.2 h0)⟩

theorem encodesTo_cbBranch {v : BitVec 9} (hv : v = b ++ bits l 3 2 ++ bits l 0 1 ++ bits a 3 2 ++ bits l 1 2 ++ 0#1)
    (he : encode i =
      .half (half16 f3 (bits v 8 1) (bits v 3 2 ++ bits a 0 3) (bits v 6 2 ++ bits v 1 2 ++ bits v 5 1) q))
    (hwf : i.wf = (bits v 0 1 == 0)) : EncodesTo (.half (half16 f3 b a l q)) i := by
  obtain ⟨hb, ha, hl, h0⟩ := cbFields_of_offset b a l hv
  rw [hb, ha, hl] at he
  exact ⟨he, hwf.trans (beq_iff_eq.2 h0)⟩

theorem encodesTo_cjFormat {v : BitVec 12}
    (hv : v = b ++ bits a 1 1 ++ bits a 2 2 ++ bits l 4 1 ++ bits a 0 1 ++ bits l 0 1 ++ bits a 4 1 ++ bits l 1 3 ++ 0#1)
    (he : encode i =
      .half (half16 f3 (bits v 11 1) (bits v 4 1 ++ bits v 8 2 ++ bits v 10 1 ++ bits v 6 1)
        (bits v 7 1 ++ bits v 1 3 ++ bits v 5 1) q))
    (hwf : i.wf = (bits v 0 1 == 0)) : EncodesTo (.half (half16 f3 b a l q)) i := by
  obtain ⟨hb, ha, hl, h0⟩ := cjFields_of_offset b a l hv
  rw [hb, ha, hl] at he
  exact ⟨he, hwf.trans (beq_iff_eq.2 h0)⟩

theorem encodesTo_ciFormat (he : encode i = .half (half16 f3 (bits (b ++ l) 5 1) a (bits (b ++ l) 0 5) q))
    (hwf : i.wf = true) : EncodesTo (.half (half16 f3 b a l q)) i := by
  rw [bits_append_high b l, bits_append_low b l] at he
  exact ⟨he, hwf⟩

theorem creg_field_of_function {f2 : BitVec 2} (h : bits a 3 2 = f2) : f2 ++ bits a 0 3 = a := by
  subst h
  ext k hk; grind

theorem encodesTo_cbAlu {f2 : BitVec 2} (h : bits a 3 2 = f2)
    (he : encode i = .half (half16 f3 (bits (b ++ l) 5 1) (f2 ++ bits a 0 3) (bits (b ++ l) 0 5) q))
    (hwf : i.wf = true) : EncodesTo (.half (half16 f3 b a l q)) i := by
  rw [creg_field_of_function h] at he
  exact encodesTo_ciFormat he hwf

theorem encodesTo_caFormat {fa fl : BitVec 2} (ha : bits a 3 2 = fa) (hl : bits l 3 2 = fl)
    (he : encode i = .half (half16 f3 b (fa ++ bits a 0 3) (fl ++ bits l 0 3) q))
    (hwf : i.wf = true) : EncodesTo (.half (half16 f3 b a l q)) i := by
  rw [creg_field_of_function ha, creg_field_of_function hl] at he
  exact ⟨he, hwf⟩

theorem decodeQ0_encodes (h : decodeQ0 x f3 b a l = some i) : EncodesTo (.half (half16 f3 b a l 0b00#2)) i := by
  unfold decodeQ0 at h
  split at h
  · obtain ⟨hne, rfl⟩ := when_eq_some h
    obtain ⟨hb, ha, hl, h0⟩ := addi4spnFields_of_immediate b a l rfl
    exact ⟨by rw [encode, hb, ha, hl], Bool.and_eq_true_iff.2 ⟨beq_iff_eq.2 h0, hne⟩⟩
  · cases h; exact encodesTo_clDouble rfl rfl rfl
  · cases h; exact encodesTo_clWord rfl rfl rfl
  · cases x <;> cases h
    · exact encodesTo_clWord rfl rfl rfl
    · exact encodesTo_clDouble rfl rfl rfl
  · cases h; exact encodesTo_clDouble rfl rfl rfl
  · cases h; exact encodesTo_clWord rfl rfl rfl
  · cases x <;> cases h
    · exact encodesTo_clWord rfl rfl rfl
    · exact encodesTo_clDouble rfl rfl rfl
  · cases h

theorem bits_two_cases (v : BitVec 2) : v = 0 ∨ v = 1 ∨ v = 2 ∨ v = 3 := by
  revert v; decide

theorem decodeQ1Alu_encodes (h : decodeQ1Alu b a l = some i) : EncodesTo (.half (half16 0b100#3 b a l 0b01#2)) i := by
  unfold decodeQ1Alu at h
  split at h
  · next hf => cases h; exact encodesTo_cbAlu hf rfl rfl
  · next hf => cases h; exact encodesTo_cbAlu hf rfl rfl
  · next hf => cases h; exact encodesTo_cbAlu hf rfl rfl
  · next h0 h1 h2 =>
    have hf : bits a 3 2 = 0b11#2 := by
      rcases bits_two_cases (bits a 3 2) with hf | hf | hf | hf
      · exact absurd hf h0
      · exact absurd hf h1
      · exact absurd hf h2
      · exact hf
    split at h <;> cases h <;> next hl => exact encodesTo_caFormat hf hl rfl rfl

/-- The offset of a load from the stack pointer, a word at `c.lwsp`. -/
theorem encodesTo_spWordLoad {v : BitVec 8} (hv : v = bits l 0 2 ++ b ++ bits l 2 3 ++ 0#2) {c : Bool} (hc : c = true)
    (he : encode i = .half (half16 f3 (bits v 5 1) a (bits v 2 3 ++ bits v 6 2) q))
    (hwf : i.wf = (bits v 0 2 == 0 && c)) : EncodesTo (.half (half16 f3 b a l q)) i := by
  obtain ⟨hb, hl, h0⟩ := spWordFields_of_offset b l hv
  rw [hb, hl] at he
  exact ⟨he, hwf.trans (Bool.and_eq_true_iff.2 ⟨beq_iff_eq.2 h0, hc⟩)⟩

theorem encodesTo_spDoubleLoad {v : BitVec 9} (hv : v = bits l 0 3 ++ b ++ bits l 3 2 ++ 0#3) {c : Bool}
    (hc : c = true) (he : encode i = .half (half16 f3 (bits v 5 1) a (bits v 3 2 ++ bits v 6 3) q))
    (hwf : i.wf = (bits v 0 3 == 0 && c)) : EncodesTo (.half (half16 f3 b a l q)) i := by
  obtain ⟨hb, hl, h0⟩ := spDoubleFields_of_offset b l hv
  rw [hb, hl] at he
  exact ⟨he, hwf.trans (Bool.and_eq_true_iff.2 ⟨beq_iff_eq.2 h0, hc⟩)⟩

theorem encodesTo_spWordStore {v : BitVec 8} (hv : v = bits a 0 2 ++ b ++ bits a 2 3 ++ 0#2)
    (he : encode i = .half (half16 f3 (bits v 5 1) (bits v 2 3 ++ bits v 6 2) l q))
    (hwf : i.wf = (bits v 0 2 == 0)) : EncodesTo (.half (half16 f3 b a l q)) i := by
  obtain ⟨hb, ha, h0⟩ := spWordFields_of_offset b a hv
  rw [hb, ha] at he
  exact ⟨he, hwf.trans (beq_iff_eq.2 h0)⟩

theorem encodesTo_spDoubleStore {v : BitVec 9} (hv : v = bits a 0 3 ++ b ++ bits a 3 2 ++ 0#3)
    (he : encode i = .half (half16 f3 (bits v 5 1) (bits v 3 2 ++ bits v 6 3) l q))
    (hwf : i.wf = (bits v 0 3 == 0)) : EncodesTo (.half (half16 f3 b a l q)) i := by
  obtain ⟨hb, ha, h0⟩ := spDoubleFields_of_offset b a hv
  rw [hb, ha] at he
  exact ⟨he, hwf.trans (beq_iff_eq.2 h0)⟩

theorem eq_seven_of_ne {v : BitVec 3} (h0 : v ≠ 0) (h1 : v ≠ 1) (h2 : v ≠ 2) (h3 : v ≠ 3) (h4 : v ≠ 4) (h5 : v ≠ 5)
    (h6 : v ≠ 6) : v = 7 := by
  bv_omega

theorem eq_one_of_ne_zero {v : BitVec 1} (h : v ≠ 0) : v = 1 := by
  revert v; decide

theorem decodeQ1_encodes (h : decodeQ1 x f3 b a l = some i) : EncodesTo (.half (half16 f3 b a l 0b01#2)) i := by
  unfold decodeQ1 at h
  split at h
  · cases h; exact encodesTo_ciFormat rfl rfl
  · cases x
    · cases h; exact encodesTo_cjFormat rfl rfl rfl
    · obtain ⟨hne, rfl⟩ := when_eq_some h
      exact encodesTo_ciFormat rfl hne
  · cases h; exact encodesTo_ciFormat rfl rfl
  · split at h
    · next ha =>
      obtain ⟨hne, rfl⟩ := when_eq_some h
      obtain ⟨hb, hl, h0⟩ := addi16spFields_of_immediate b l rfl
      exact ⟨by rw [encode, hb, hl, ha], Bool.and_eq_true_iff.2 ⟨beq_iff_eq.2 h0, hne⟩⟩
    · next ha =>
      obtain ⟨hne, rfl⟩ := when_eq_some h
      exact encodesTo_ciFormat rfl (Bool.and_eq_true_iff.2 ⟨bne_iff_ne.2 ha, hne⟩)
  · exact decodeQ1Alu_encodes h
  · cases h; exact encodesTo_cjFormat rfl rfl rfl
  · cases h; exact encodesTo_cbBranch rfl rfl rfl
  · next h0 h1 h2 h3 h4 h5 h6 =>
    obtain rfl := eq_seven_of_ne h0 h1 h2 h3 h4 h5 h6
    cases h; exact encodesTo_cbBranch rfl rfl rfl

theorem decodeQ2Reg_encodes (h : decodeQ2Reg b a l = some i) : EncodesTo (.half (half16 0b100#3 b a l 0b10#2)) i := by
  unfold decodeQ2Reg at h
  split at h
  · split at h
    · next hl =>
      obtain ⟨hne, rfl⟩ := when_eq_some h
      subst hl
      exact ⟨rfl, hne⟩
    · next hl =>
      cases h
      exact ⟨rfl, bne_iff_ne.2 hl⟩
  · next hb =>
    obtain rfl := eq_one_of_ne_zero hb
    split at h
    · next hl =>
      subst hl
      split at h
      · next ha => cases h; subst ha; exact ⟨rfl, rfl⟩
      · next ha => cases h; exact ⟨rfl, bne_iff_ne.2 ha⟩
    · next hl =>
      obtain ⟨hne, rfl⟩ := when_eq_some h
      exact ⟨rfl, Bool.and_eq_true_iff.2 ⟨hne, bne_iff_ne.2 hl⟩⟩

theorem decodeQ2_encodes (h : decodeQ2 x f3 b a l = some i) : EncodesTo (.half (half16 f3 b a l 0b10#2)) i := by
  unfold decodeQ2 at h
  split at h
  · cases h; exact encodesTo_ciFormat rfl rfl
  · cases h; exact encodesTo_spDoubleLoad rfl rfl rfl (Bool.and_true _).symm
  · obtain ⟨hne, rfl⟩ := when_eq_some h
    exact encodesTo_spWordLoad rfl hne rfl rfl
  · cases x
    · cases h; exact encodesTo_spWordLoad rfl rfl rfl (Bool.and_true _).symm
    · obtain ⟨hne, rfl⟩ := when_eq_some h
      exact encodesTo_spDoubleLoad rfl hne rfl rfl
  · exact decodeQ2Reg_encodes h
  · cases h; exact encodesTo_spDoubleStore rfl rfl rfl
  · cases h; exact encodesTo_spWordStore rfl rfl rfl
  · next h0 h1 h2 h3 h4 h5 h6 =>
    obtain rfl := eq_seven_of_ne h0 h1 h2 h3 h4 h5 h6
    cases x <;> cases h
    · exact encodesTo_spWordStore rfl rfl rfl
    · exact encodesTo_spDoubleStore rfl rfl rfl

theorem decodeParts_encodes (h : decodeParts x f3 b a l q = some i) : EncodesTo (.half (half16 f3 b a l q)) i := by
  unfold decodeParts at h
  split at h
  · exact decodeQ0_encodes h
  · exact decodeQ1_encodes h
  · exact decodeQ2_encodes h
  · cases h

theorem decode16_encodes {w : BitVec 16} (h : decode16 x w = some i) : EncodesTo (.half w) i := by
  have hparts := decodeParts_encodes h
  rwa [half16_bits] at hparts

end

/-- Settles O2: the encoder gives back every field that the decoder took out of the bits. -/
theorem decodedInstructionsEncode : Obligations.DecodedInstructionsEncode := by
  unfold Obligations.DecodedInstructionsEncode
  intro x c i h
  cases c with
  | half w => exact decode16_encodes (decode_half_eq_instr.1 h)
  | word w => exact decode32_encodes (decode_word_eq_instr.1 h)

/-- Settles O3: the decoder evaluates on nine fixed words. -/
theorem wordsOfTheSpecDecode : Obligations.WordsOfTheSpecDecode := by
  unfold Obligations.WordsOfTheSpecDecode
  intro x
  cases x <;> exact ⟨rfl, rfl, rfl, rfl, rfl, rfl, rfl, rfl, rfl⟩

/-! ### What is no instruction -/

theorem when_of_false {c : Bool} (i : Instr) (h : c = false) : when c i = none := by
  rw [when, h]; rfl

theorem bne_zero_of_eq {n : Nat} {v : BitVec n} (h : v = 0) : (v != 0) = false :=
  bne_eq_false_iff_eq.2 h

theorem decodeQ0_addi4spn_zero (x : Xlen) {b : BitVec 1} {a l : BitVec 5} (hb : b = 0) (ha : a = 0)
    (hl : bits l 3 2 = 0) : decodeQ0 x 0b000#3 b a l = none := by
  refine when_of_false _ (bne_zero_of_eq ?_)
  subst hb ha
  have h3 : bits l 3 1 = bits (bits l 3 2) 0 1 := by ext k hk; grind
  have h4 : bits l 4 1 = bits (bits l 3 2) 1 1 := by ext k hk; grind
  rw [h3, h4, hl]
  rfl

theorem decodeQ1_upper_zero (x : Xlen) {b : BitVec 1} (a : BitVec 5) {l : BitVec 5} (hb : b = 0) (hl : l = 0) :
    decodeQ1 x 0b011#3 b a l = none := by
  subst hb hl
  change (if a = 2#5 then _ else _) = none
  split
  · rfl
  · rfl

theorem decodeQ1_addiw_zero (b : BitVec 1) (l : BitVec 5) : decodeQ1 .rv64 0b001#3 b 0 l = none :=
  rfl

theorem decodeQ2_lwsp_zero (x : Xlen) (b : BitVec 1) (l : BitVec 5) : decodeQ2 x 0b010#3 b 0 l = none :=
  rfl

theorem decodeQ2_ldsp_zero (b : BitVec 1) (l : BitVec 5) : decodeQ2 .rv64 0b011#3 b 0 l = none :=
  rfl

theorem decodeQ2_jr_zero (x : Xlen) : decodeQ2 x 0b100#3 0 0 0 = none :=
  rfl

theorem decodeQ2_add_zero (x : Xlen) {l : BitVec 5} (hl : l ≠ 0) : decodeQ2 x 0b100#3 1 0 l = none :=
  if_neg hl

theorem exists_reject_half {x : Xlen} {h : BitVec 16} (hnone : decode16 x h = none) :
    ∃ r, decode x (.half h) = .reject r :=
  ⟨_, by rw [decode, hnone]⟩

/-- Function and bit 12 of a halfword, from the four bits that hold both. -/
theorem function_bit12_of_bits {h : BitVec 16} {f3 : BitVec 3} {b : BitVec 1} (hv : bits h 12 4 = f3 ++ b) :
    bits h 13 3 = f3 ∧ bits h 12 1 = b := by
  have h13 : bits h 13 3 = bits (bits h 12 4) 1 3 := by ext k hk; grind
  have h12 : bits h 12 1 = bits (bits h 12 4) 0 1 := by ext k hk; grind
  rw [h13, h12, hv]
  exact ⟨by ext k hk; grind, by ext k hk; grind⟩

/-- Settles O4: each disjunct fixes the quadrant and function, and there the decoder's condition on its fields fails. -/
theorem illegalEncodingsAreRejected : Obligations.IllegalEncodingsAreRejected := by
  unfold Obligations.IllegalEncodingsAreRejected
  intro x h hh
  refine ⟨exists_reject_half ?_, ⟨_, rfl⟩⟩
  rw [decode16]
  rcases hh with ⟨hq, hf, h0⟩ | ⟨hq, hf, hb, hl⟩ | ⟨hq, hf, ha⟩ | ⟨rfl, hq, hf, ha⟩ | ⟨rfl, hq, hf, ha⟩ |
    ⟨hq, hf, ha, hl⟩ | ⟨hq, hf, ha, hl⟩
  · have hb : bits h 12 1 = bits (bits h 5 8) 7 1 := by ext k hk; grind
    have ha : bits h 7 5 = bits (bits h 5 8) 2 5 := by ext k hk; grind
    have hl : bits (bits h 2 5) 3 2 = bits (bits h 5 8) 0 2 := by ext k hk; grind
    rw [hq, hf]
    exact decodeQ0_addi4spn_zero x (by rw [hb, h0]; rfl) (by rw [ha, h0]; rfl) (by rw [hl, h0]; rfl)
  · rw [hq, hf]; exact decodeQ1_upper_zero x _ hb hl
  · rw [hq, hf, ha]; exact decodeQ2_lwsp_zero x _ _
  · rw [hq, hf, ha]; exact decodeQ2_ldsp_zero _ _
  · rw [hq, hf, ha]; exact decodeQ1_addiw_zero _ _
  · obtain ⟨hf, hb⟩ := function_bit12_of_bits (f3 := 0b100#3) (b := 0#1) hf
    rw [hq, hf, hb, ha, hl]; exact decodeQ2_jr_zero x
  · obtain ⟨hf, hb⟩ := function_bit12_of_bits (f3 := 0b100#3) (b := 1#1) hf
    rw [hq, hf, hb, ha]; exact decodeQ2_add_zero x hl

end Sys2Proof
end

section
/-!
PROOFS about every instruction: the states an instruction can end in, once for all 201 (`exec_outcome`). The invariant
(O11), the mode (O13), time (O12) and the frames (O59, O60) are read off it.
-/

/-- The length of an instruction in bytes, by its extension: the compressed ones have 2 (R503). -/
def Sys2Proof.Ext.byteLength : Sys2Proof.Ext → Sys2Proof.Word
  | .c | .cf | .cd => 2
  | .base | .m | .a | .f | .d | .privM | .privS => 4

namespace Sys2Proof.Machine

open Sys2Proof

/-! ## What an instruction may change before it ends -/

/-- The state u differs from s only in what the instruction i may write: its destinations, the flags if it accrues, the
bytes of its store or atomic access, the reservation if it is an atomic one, and the copy of memory that fence.i makes. -/
inductive Effect (s : State) (i : Instr) : State → Prop where
  | refl : Effect s i s
  | setX {u : State} {rd : Reg} (h : Effect s i u) (hrd : i.xDest = some rd) (v : Word) : Effect s i (u.setX rd v)
  | setF {u : State} {rd : FReg} (h : Effect s i u) (hrd : i.fDest = some rd) (v : Word) : Effect s i (u.setF rd v)
  | accrue {u : State} (h : Effect s i u) (hacc : i.accrues = true) (fl : BitVec 5) : Effect s i (u.accrue fl)
  | writeBytes {u : State} {a : Word} {n : Nat} (h : Effect s i u)
      (ha : s.stores i = some (a, n) ∨ s.atomics i = some (a, n)) (v : Word) : Effect s i (u.writeBytes a n v)
  | reserve {u : State} (h : Effect s i u)
      (hi : (∃ an, s.atomics i = some an) ∨ ∃ aq rl rd rs1, i = .lrW aq rl rd rs1 ∨ i = .lrD aq rl rd rs1)
      (r : Option Reservation) : Effect s i { u with reservation := r }
  | syncFetch (hi : i = .fenceI) : Effect s i { s with imem := s.mem }

/-- What no effect touches: everything but the registers, the flags, FS, the reservation and memory. -/
theorem Effect.frame {s u : State} {i : Instr} (h : Effect s i u) :
    u = { s with
      x := u.x, f := u.f, fflags := u.fflags, mstatus := { s.mstatus with fs := u.mstatus.fs }
      reservation := u.reservation, mem := u.mem, imem := u.imem } := by
  induction h with
  | refl => rfl
  | @setX u rd _ _ v ih =>
    rw [State.setX_unchanged]
    exact congrArg (fun w => { w with x := (u.setX rd v).x }) ih
  | @setF u rd _ _ v ih => exact congrArg (fun w => w.setF rd v) ih
  | accrue _ _ fl ih => exact congrArg (fun w => w.accrue fl) ih
  | @writeBytes u a n _ _ v ih =>
    rw [State.writeBytes_unchanged]
    exact congrArg
      (fun w => { w with mem := (u.writeBytes a n v).mem, reservation := (u.writeBytes a n v).reservation }) ih
  | reserve _ _ r ih => exact congrArg (fun w => { w with reservation := r }) ih
  | syncFetch _ => rfl

theorem Effect.cfg {s u : State} {i : Instr} (h : Effect s i u) : u.cfg = s.cfg := by rw [h.frame]

theorem Effect.pc {s u : State} {i : Instr} (h : Effect s i u) : u.pc = s.pc := by rw [h.frame]

theorem Effect.minstret {s u : State} {i : Instr} (h : Effect s i u) : u.minstret = s.minstret := by rw [h.frame]

/-! ## How an instruction ends -/

/-- The states an instruction i, run in s, can end in. -/
inductive Outcome (s : State) (i : Instr) : State → Prop where
  /-- It retires and goes on. -/
  | passed {u : State} (hp : s.permits i = true) (h : Effect s i u) : Outcome s i (u.passed i.ext.byteLength)
  /-- It retires and goes to a target. -/
  | jumped {u : State} {a : Word} (h : Effect s i u) (hbad : s.badTarget a = false) (hfit : s.norm a = a) :
      Outcome s i (u.jumped a)
  /-- It is a CSR instruction whose access is allowed. -/
  | csr {n : BitVec 12} {c : Csr} {rd : Reg} (w : Option Word) (hcsr : i.isCsr = true)
      (hacc : s.csrAccess n w.isSome = some c) : Outcome s i (s.csrDone c rd w)
  | mret (hi : i = .mret) : Outcome s i s.returnM.retire
  | sret (hi : i = .sret) (hlegal : s.sretLegal = true) : Outcome s i s.returnS.retire
  /-- It raises an exception. -/
  | raised (c : Cause) (v : Word) : Outcome s i (s.enterTrap false c.code v)
  /-- It is a split store that raises an exception after its first m bytes (R653). -/
  | raisedInStore {a : Word} {n m : Nat} (hs : s.stores i = some (a, n)) (hsplit : s.cfg.misaligned = .split)
      (hm : m ≤ n) (w : Word) (c : Cause) (v : Word) :
      Outcome s i ((s.writeBytes a m w).enterTrap false c.code v)

/-- A result that, behind the gate of i, is a fault, a refusal, or an outcome of i. -/
def Gives (s : State) (i : Instr) (r : Result) : Prop := s.permits i = true → ∀ t, r = .next t → Outcome s i t

variable {s t u : State} {i : Instr}

theorem gives_raise (c : Cause) (v : Word) : Gives s i (s.raise c v) := by
  rintro - t h
  obtain ⟨-, rfl⟩ := State.raise_next h
  exact .raised c v

theorem gives_illegal (j : Instr) : Gives s i (s.illegal j) := gives_raise _ _

theorem Outcome.of_gate {r : Result} (hr : Gives s i r) (h : s.gate i r = .next t) : Outcome s i t := by
  rcases State.gate_next h with ⟨hp, h⟩ | ⟨-, h⟩
  · exact hr hp t h
  · obtain ⟨-, rfl⟩ := State.illegal_next h
    exact .raised .illegalInstruction _

/-! ### Sequential ends -/

theorem gives_finish (hu : Effect s i u) : Gives s i (u.finish i.ext.byteLength) := by
  rintro hp t h
  cases h
  exact .passed hp hu

theorem gives_result {rd : Reg} {v : Word} (hu : Effect s i u) (hrd : i.xDest = some rd) :
    Gives s i (u.result i.ext.byteLength rd v) :=
  gives_finish (hu.setX hrd v)

theorem gives_moveS {rd : FReg} {v : BitVec 32} (hrd : i.fDest = some rd) :
    Gives s i ((s.setS rd v).finish i.ext.byteLength) :=
  gives_finish (.setF .refl hrd _)

theorem gives_moveD {rd : FReg} {v : BitVec 64} (hrd : i.fDest = some rd) :
    Gives s i ((s.setF rd v).finish i.ext.byteLength) :=
  gives_finish (.setF .refl hrd _)

theorem gives_resultS {rd : FReg} {r : BitVec 32 × BitVec 5} (hrd : i.fDest = some rd) (hacc : i.accrues = true) :
    Gives s i (((s.setS rd r.1).accrue r.2).finish i.ext.byteLength) :=
  gives_finish (.accrue (.setF .refl hrd _) hacc _)

theorem gives_resultD {rd : FReg} {r : BitVec 64 × BitVec 5} (hrd : i.fDest = some rd) (hacc : i.accrues = true) :
    Gives s i (((s.setF rd r.1).accrue r.2).finish i.ext.byteLength) :=
  gives_finish (.accrue (.setF .refl hrd _) hacc _)

theorem gives_resultFlags {rd : Reg} {r : Word × BitVec 5} (hrd : i.xDest = some rd) (hacc : i.accrues = true) :
    Gives s i (((s.setX rd r.1).accrue r.2).finish i.ext.byteLength) :=
  gives_finish (.accrue (.setX .refl hrd _) hacc _)

theorem gives_rounded {rm : BitVec 3} {k : Rounding → Result} (hk : ∀ m, Gives s i (k m)) :
    Gives s i (s.rounded i rm k) := by
  rintro hp t h
  rcases State.rounded_next h with ⟨m, -, h⟩ | ⟨-, h⟩
  · exact hk m hp t h
  · exact gives_illegal i hp t h

/-- An instruction that ends or is illegal, as its condition says. -/
theorem gives_ite {c : Bool} {r : Result} (hr : c = true → Gives s i r) :
    Gives s i (if c then r else s.illegal i) := by
  cases c with
  | true => exact hr rfl
  | false => exact gives_illegal i

/-! ### Control transfer -/

theorem gives_jumpTo {a : Word} (hfit : s.norm a = a) : Gives s i (s.jumpTo a) := by
  rintro hp t h
  rcases State.jumpTo_next h with ⟨hbad, rfl⟩ | h
  · exact .jumped .refl hbad hfit
  · exact gives_raise _ _ hp t h

theorem gives_jumpLink {len : Word} {rd : Reg} {a : Word} (hfit : s.norm a = a) (hrd : rd = 0 ∨ i.xDest = some rd) :
    Gives s i (s.jumpLink len rd a) := by
  rintro hp t h
  rcases State.jumpLink_next h with ⟨hbad, rfl⟩ | h
  · rcases hrd with rfl | hrd
    · exact .jumped (u := s) .refl hbad hfit
    · exact .jumped (.setX .refl hrd _) hbad hfit
  · exact gives_raise _ _ hp t h

theorem gives_branch {n : Nat} {taken : Bool} {off : BitVec n} :
    Gives s i (s.branch i.ext.byteLength taken off) := by
  cases taken with
  | true => exact gives_jumpTo (State.norm_norm s _)
  | false => exact gives_finish .refl

/-- Clearing bit 0 of a value of XLEN bits leaves one. -/
theorem State.norm_and (s : State) (v w : Word) : s.norm (s.norm v &&& w) = s.norm v &&& w := by
  cases h : s.cfg.xlen
  · simp only [State.norm_rv32 h]
    ext k hk
    grind
  · simp only [State.norm_rv64 h]

/-! ### Memory -/

theorem gives_load {a : Word} {n : Nat} {k : Word → Result} (hk : ∀ v, Gives s i (k v)) : Gives s i (s.load a n k) := by
  rintro hp t h
  rcases State.load_next h with ⟨-, h⟩ | h | h
  · exact hk _ hp t h
  · exact gives_raise _ _ hp t h
  · exact gives_raise _ _ hp t h

theorem gives_reservedLoad {a : Word} {n : Nat} {k : Word → Result} (hk : ∀ v, Gives s i (k v)) :
    Gives s i (s.reservedLoad a n k) := by
  rintro hp t h
  rcases State.reservedLoad_next h with ⟨-, -, h⟩ | h | h
  · exact hk _ hp t h
  · exact gives_raise _ _ hp t h
  · exact gives_raise _ _ hp t h

theorem gives_loadX {rd : Reg} {a : Word} {n : Nat} {extend : Word → Word} (hrd : i.xDest = some rd) :
    Gives s i (s.loadX i.ext.byteLength rd a n extend) :=
  gives_load fun _ => gives_result .refl hrd

theorem gives_loadS {rd : FReg} {a : Word} (hrd : i.fDest = some rd) : Gives s i (s.loadS i.ext.byteLength rd a) :=
  gives_load fun _ => gives_moveS hrd

theorem gives_loadD {rd : FReg} {a : Word} (hrd : i.fDest = some rd) : Gives s i (s.loadD i.ext.byteLength rd a) :=
  gives_load fun _ => gives_moveD hrd

theorem gives_storeV {a : Word} {n : Nat} {v : Word} (ha : s.stores i = some (a, n)) :
    Gives s i (s.storeV i.ext.byteLength a n v) := by
  rintro hp t h
  unfold State.storeV State.store at h
  split at h
  · split at h
    · exact gives_finish (.writeBytes .refl (.inl ha) v) hp t h
    · exact gives_raise _ _ hp t h
    · cases h
  · split at h
    · exact gives_raise _ _ hp t h
    · next hsplit =>
      rcases State.splitStore_next h with h | ⟨m, hm, h⟩
      · exact gives_finish (.writeBytes .refl (.inl ha) v) hp t h
      · obtain ⟨-, rfl⟩ := State.raise_next h
        exact .raisedInStore ha hsplit hm.le v _ _

/-- The address of a load or a store, as the instruction computes it and as a number. -/
theorem State.address_eq_ea_sext (s : State) (rs1 : Reg) (off : BitVec 12) :
    s.address rs1 off.toInt = s.ea rs1 (s.sext off) :=
  (s.ea_eq_address rs1 (s.sext_eq_word off (by decide))).symm

theorem State.address_eq_ea_zext {n : Nat} (s : State) (rs1 : Reg) (u : BitVec n) (hn : n ≤ 64) :
    s.address rs1 u.toNat = s.ea rs1 (s.zext u) :=
  (s.ea_eq_address rs1 (s.zext_eq_word u hn)).symm

theorem gives_storeV_sext {rs1 : Reg} {off : BitVec 12} {n : Nat} {v : Word}
    (ha : s.stores i = some (s.address rs1 off.toInt, n)) :
    Gives s i (s.storeV i.ext.byteLength (s.ea rs1 (s.sext off)) n v) := by
  rw [State.address_eq_ea_sext] at ha
  exact gives_storeV ha

theorem gives_storeV_zext {rs1 : Reg} {m : Nat} {u : BitVec m} {n : Nat} {v : Word}
    (ha : s.stores i = some (s.address rs1 u.toNat, n)) (hm : m ≤ 64) :
    Gives s i (s.storeV i.ext.byteLength (s.ea rs1 (s.zext u)) n v) := by
  rw [State.address_eq_ea_zext s rs1 u hm] at ha
  exact gives_storeV ha

theorem gives_atomically {a : Word} {n : Nat} {k : Result} (hk : Gives s i k) : Gives s i (s.atomically a n k) := by
  rintro hp t h
  rcases State.atomically_next h with ⟨-, -, h⟩ | h | h
  · exact hk hp t h
  · exact gives_raise _ _ hp t h
  · exact gives_raise _ _ hp t h

/-- What an AMO does after its checks: the new value to memory, the old one to x[rd]. -/
theorem gives_swap {a : Word} {n : Nat} {rd : Reg} {v w : Word} (hlen : i.ext.byteLength = 4)
    (ha : s.atomics i = some (a, n)) (hrd : i.xDest = some rd) : Gives s i ((s.writeBytes a n v).result 4 rd w) :=
  hlen ▸ gives_result (.writeBytes .refl (.inr ha) v) hrd

theorem gives_amoW {rd rs1 rs2 : Reg} {op : (n : Nat) → BitVec n → BitVec n → BitVec n}
    (hlen : i.ext.byteLength = 4) (ha : s.atomics i = some (s.getX rs1, 4)) (hrd : i.xDest = some rd) :
    Gives s i (s.amoW rd rs1 rs2 op) :=
  gives_atomically (gives_swap hlen ha hrd)

theorem gives_amoD {rd rs1 rs2 : Reg} {op : (n : Nat) → BitVec n → BitVec n → BitVec n}
    (hlen : i.ext.byteLength = 4) (ha : s.atomics i = some (s.getX rs1, 8)) (hrd : i.xDest = some rd) :
    Gives s i (s.amoD rd rs1 rs2 op) :=
  gives_atomically (gives_swap hlen ha hrd)

theorem gives_loadReserved {rd rs1 : Reg} {n : Nat} {extend : Word → Word} (hlen : i.ext.byteLength = 4)
    (hi : ∃ aq rl rd rs1, i = .lrW aq rl rd rs1 ∨ i = .lrD aq rl rd rs1) (hrd : i.xDest = some rd) :
    Gives s i (s.loadReserved rd rs1 n extend) :=
  gives_reservedLoad fun _ => hlen ▸ gives_result (.reserve .refl (.inr hi) _) hrd

theorem gives_storeConditional {rd rs1 rs2 : Reg} {n : Nat} (hlen : i.ext.byteLength = 4)
    (ha : s.atomics i = some (s.getX rs1, n)) (hrd : i.xDest = some rd) :
    Gives s i (s.storeConditional rd rs1 rs2 n) := by
  rintro hp t h
  rcases State.storeConditional_next h with ⟨-, -, rfl⟩ | ⟨-, rfl⟩ | h | h
  · exact hlen ▸ .passed hp (.setX (.reserve (.writeBytes .refl (.inr ha) _) (.inl ⟨_, ha⟩) _) hrd _)
  · exact hlen ▸ .passed hp (.setX (.reserve .refl (.inl ⟨_, ha⟩) _) hrd _)
  · exact gives_raise _ _ hp t h
  · exact gives_raise _ _ hp t h

/-! ### CSR instructions -/

/-- The CSR operation, in the terms of `csrDone`: the value written, if the instruction writes. -/
theorem State.csrOp_of_access {n : BitVec 12} {writes : Bool} {c : Csr} (h : s.csrAccess n writes = some c) (j : Instr)
    (rd : Reg) (f : Word → Word) :
    s.csrOp j rd n writes f = .next (s.csrDone c rd (if writes then some (f (s.csrRead c)) else none)) := by
  rw [State.csrOp_of_some h]
  cases writes <;> rfl

theorem State.csrOp_of_no_access {n : BitVec 12} {writes : Bool} (h : s.csrAccess n writes = none) (j : Instr) (rd : Reg)
    (f : Word → Word) : s.csrOp j rd n writes f = s.illegal j := by
  rw [State.csrOp, h]

theorem gives_csrOp {j : Instr} {rd : Reg} {n : BitVec 12} {writes : Bool} {f : Word → Word} (hcsr : i.isCsr = true) :
    Gives s i (s.csrOp j rd n writes f) := by
  rintro hp t h
  cases hacc : s.csrAccess n writes with
  | none =>
    rw [State.csrOp_of_no_access hacc] at h
    exact gives_illegal j hp t h
  | some c =>
    rw [State.csrOp_of_access hacc] at h
    cases h
    exact .csr _ hcsr (n := n) (by cases writes <;> exact hacc)

/-! ## Every instruction -/

/-- The states in which the instructions end, one shape of meaning after the other. -/
theorem exec_outcome (h : exec i s = .next t) : Outcome s i t := by
  cases i
  case auipc | lui | cLui | add | addw | and | or | sll | sllw | slt | sltu | sra | sraw | srl | srlw | sub | subw | xor |
      addi | addiw | andi | ori | slli | slliw | slti | sltiu | srai | sraiw | srli | srliw | xori |
      div | divu | divuw | divw | mul | mulh | mulhsu | mulhu | mulw | rem | remu | remuw | remw |
      cAdd | cAddi | cAddi16sp | cAddi4spn | cAddiw | cAddw | cAnd | cAndi | cLi | cMv | cOr | cSlli | cSrai | cSrli |
      cSub | cSubw | cXor | fclassS | fclassD | fmvXW | fmvXD =>
    exact .of_gate (gives_result .refl rfl) h
  case beq | bge | bgeu | blt | bltu | bne | cBeqz | cBnez => exact .of_gate gives_branch h
  case jal | cJal => exact .of_gate (gives_jumpLink (State.norm_norm s _) (.inr rfl)) h
  case jalr | cJalr => exact .of_gate (gives_jumpLink (State.norm_and s _ _) (.inr rfl)) h
  case cJ => exact .of_gate (gives_jumpLink (State.norm_norm s _) (.inl rfl)) h
  case cJr => exact .of_gate (gives_jumpLink (State.norm_and s _ _) (.inl rfl)) h
  case fence => exact .of_gate (gives_finish .refl) h
  case fenceI => exact .of_gate (gives_finish (.syncFetch rfl)) h
  case lb | lbu | ld | lh | lhu | lw | lwu | cLd | cLdsp | cLw | cLwsp => exact .of_gate (gives_loadX rfl) h
  case flw | cFlw | cFlwsp => exact .of_gate (gives_loadS rfl) h
  case fld | cFld | cFldsp => exact .of_gate (gives_loadD rfl) h
  case sb | sd | sh | sw | fsw | fsd => exact .of_gate (gives_storeV_sext rfl) h
  case cFsd | cFsdsp | cFsw | cFswsp | cSd | cSdsp | cSw | cSwsp =>
    exact .of_gate (gives_storeV_zext rfl (by decide)) h
  case csrrc | csrrci | csrrs | csrrsi | csrrw | csrrwi => exact .of_gate (gives_csrOp rfl) h
  case ebreak | ecall | cEbreak => exact .of_gate (gives_raise _ _) h
  case sfenceVma | wfi => exact .of_gate (gives_ite fun _ => gives_finish .refl) h
  case mret => exact .of_gate (gives_ite fun _ _ _ h => by cases h; exact .mret rfl) h
  case sret => exact .of_gate (gives_ite fun hlegal _ _ h => by cases h; exact .sret rfl hlegal) h
  case amoaddD | amoandD | amomaxD | amomaxuD | amominD | amominuD | amoorD | amoswapD | amoxorD =>
    exact .of_gate (gives_amoD rfl rfl rfl) h
  case amoaddW | amoandW | amomaxW | amomaxuW | amominW | amominuW | amoorW | amoswapW | amoxorW =>
    exact .of_gate (gives_amoW rfl rfl rfl) h
  case lrD => exact .of_gate (gives_loadReserved rfl ⟨_, _, _, _, .inr rfl⟩ rfl) h
  case lrW => exact .of_gate (gives_loadReserved rfl ⟨_, _, _, _, .inl rfl⟩ rfl) h
  case scD | scW => exact .of_gate (gives_storeConditional rfl rfl rfl) h
  case faddS | fcvtSL | fcvtSLu | fcvtSW | fcvtSWu | fcvtSD | fdivS | fmaddS | fmsubS | fmulS | fnmaddS | fnmsubS | fsqrtS |
      fsubS =>
    exact .of_gate (gives_rounded fun _ => gives_resultS rfl rfl) h
  case fmaxS | fminS => exact .of_gate (gives_resultS rfl rfl) h
  case faddD | fcvtDL | fcvtDLu | fcvtDS | fdivD | fmaddD | fmsubD | fmulD | fnmaddD | fnmsubD | fsqrtD | fsubD =>
    exact .of_gate (gives_rounded fun _ => gives_resultD rfl rfl) h
  case fmaxD | fminD => exact .of_gate (gives_resultD rfl rfl) h
  case fcvtDW | fcvtDWu => exact .of_gate (gives_rounded fun _ => gives_moveD rfl) h
  case fcvtLS | fcvtLuS | fcvtWS | fcvtWuS | fcvtLD | fcvtLuD | fcvtWD | fcvtWuD =>
    exact .of_gate (gives_rounded fun _ => gives_resultFlags rfl rfl) h
  case feqS | fleS | fltS | feqD | fleD | fltD => exact .of_gate (gives_resultFlags rfl rfl) h
  case fmvWX | fsgnjS | fsgnjnS | fsgnjxS => exact .of_gate (gives_moveS rfl) h
  case fmvDX | fsgnjD | fsgnjnD | fsgnjxD => exact .of_gate (gives_moveD rfl) h

end Sys2Proof.Machine
end

section
/-!
PROOFS read off the outcomes of the instructions: time and parameters (O12), the mode (O13), what retiring and raising
leave (O59, O60).
-/
namespace Sys2Proof.Machine

open Sys2Proof

/-! ## What a CSR instruction leaves -/

section

variable (s : State) (c : Csr) (rd : Reg) (v : Word) (w : Option Word)

/-- What no CSR write touches (R32). -/
theorem State.csrWrite_frame :
    (s.csrWrite c v).cfg = s.cfg ∧ (s.csrWrite c v).x = s.x ∧ (s.csrWrite c v).f = s.f ∧ (s.csrWrite c v).pc = s.pc ∧
    (s.csrWrite c v).priv = s.priv ∧ (s.csrWrite c v).lines = s.lines ∧ (s.csrWrite c v).mtime = s.mtime ∧
    (s.csrWrite c v).reservation = s.reservation ∧ (s.csrWrite c v).mem = s.mem ∧ (s.csrWrite c v).imem = s.imem ∧
    (s.csrWrite c v).drawIndex = s.drawIndex := by
  cases c <;> exact ⟨rfl, rfl, rfl, rfl, rfl, rfl, rfl, rfl, rfl, rfl, rfl⟩

/-- The state of a CSR instruction after its write, if it writes. -/
def State.csrWritten : State :=
  match w with
  | some v => s.csrWrite c v
  | none => s

/-- A CSR instruction writes its CSR, then x[rd], then pc and the count. -/
theorem State.csrDone_eq :
    s.csrDone c rd w =
      if w.isSome && c.isInstret then ((s.csrWritten c w).setX rd (s.csrRead c)).advance 4
      else (((s.csrWritten c w).setX rd (s.csrRead c)).advance 4).retire :=
  rfl

theorem State.csrWritten_frame :
    (s.csrWritten c w).cfg = s.cfg ∧ (s.csrWritten c w).x = s.x ∧ (s.csrWritten c w).f = s.f ∧
    (s.csrWritten c w).pc = s.pc ∧ (s.csrWritten c w).priv = s.priv ∧ (s.csrWritten c w).lines = s.lines ∧
    (s.csrWritten c w).mtime = s.mtime ∧ (s.csrWritten c w).reservation = s.reservation ∧
    (s.csrWritten c w).mem = s.mem ∧ (s.csrWritten c w).imem = s.imem ∧
    (s.csrWritten c w).drawIndex = s.drawIndex := by
  cases w with
  | none => exact ⟨rfl, rfl, rfl, rfl, rfl, rfl, rfl, rfl, rfl, rfl, rfl⟩
  | some v => exact s.csrWrite_frame c v

/-- But for the count of retired instructions a CSR instruction ends as if it always retired. -/
theorem State.csrDone_eq_retire :
    ∃ n, s.csrDone c rd w = { (((s.csrWritten c w).setX rd (s.csrRead c)).advance 4).retire with minstret := n } := by
  rw [State.csrDone_eq]
  split
  · exact ⟨_, rfl⟩
  · exact ⟨_, rfl⟩

end

variable {s t u : State} {i : Instr}

/-! ## Parameters and time (O12) -/

/-- No instruction changes the parameters, mtime, or the draw index (R6, R37). -/
theorem Outcome.keeps_time (h : Outcome s i t) : t.cfg = s.cfg ∧ t.mtime = s.mtime ∧ t.drawIndex = s.drawIndex := by
  cases h with
  | passed _ h => rw [h.frame]; exact ⟨rfl, rfl, rfl⟩
  | jumped h _ _ => rw [h.frame]; exact ⟨rfl, rfl, rfl⟩
  | @csr n c rd w _ _ =>
    obtain ⟨m, h⟩ := s.csrDone_eq_retire c rd w
    obtain ⟨hcfg, -, -, -, -, -, htime, -, -, -, hdraw⟩ := s.csrWritten_frame c w
    rw [h]
    simp [hcfg, htime, hdraw]
  | mret _ => exact ⟨rfl, rfl, rfl⟩
  | sret _ _ => exact ⟨rfl, rfl, rfl⟩
  | raised c v => exact ⟨rfl, rfl, rfl⟩
  | raisedInStore _ _ _ w c v => simp

/-- What the step does before its counters tick keeps them too, whether it is an instruction or trap entry. -/
theorem step_eq_tick (h : step s = .next t) :
    ∃ u : State, t = u.tick ∧ u.cfg = s.cfg ∧ u.mtime = s.mtime ∧ u.drawIndex = s.drawIndex := by
  obtain ⟨u, rfl, hu⟩ := step_next h
  refine ⟨u, rfl, ?_⟩
  rcases hu with ⟨c, -, hu⟩ | ⟨-, ⟨-, hu⟩ | ⟨c, i, -, -, hu⟩ | ⟨c, r, -, -, hu⟩⟩
  · obtain ⟨-, rfl⟩ := State.trap_next hu; simp
  · obtain ⟨-, rfl⟩ := State.raise_next hu; simp
  · simpa using (exec_outcome hu).keeps_time
  · obtain ⟨-, rfl⟩ := State.raise_next hu; simp

/-- Settles O12: only the tick at the end of a step moves mtime and the draw index. -/
theorem stepKeepsParametersAndMovesTime : Obligations.StepKeepsParametersAndMovesTime := by
  unfold Obligations.StepKeepsParametersAndMovesTime
  intro s t h
  obtain ⟨u, rfl, hcfg, htime, hdraw⟩ := step_eq_tick h
  have hcycles : u.cycles = s.cycles := by simp only [State.cycles, hcfg, hdraw]
  refine ⟨hcfg, ?_, ?_, fun hpinned => ?_⟩
  · rw [State.tick_mtime, htime, hcycles]
  · rw [State.tick_drawIndex, hdraw]
  · rw [State.tick_mtime, htime, hcycles, State.cycles, hpinned]

/-! ## The mode (O13) -/

/-- Settles O13: what retires keeps the mode, and what raises enters M-mode. -/
theorem modeChangesOnlyByTrapsAndReturns : Obligations.ModeChangesOnlyByTrapsAndReturns := by
  unfold Obligations.ModeChangesOnlyByTrapsAndReturns
  intro i s t hret h
  cases exec_outcome h with
  | passed _ hu => rw [hu.frame]; exact .inl rfl
  | jumped hu _ _ => rw [hu.frame]; exact .inl rfl
  | @csr n c rd w _ _ =>
    obtain ⟨m, h⟩ := s.csrDone_eq_retire c rd w
    obtain ⟨-, -, -, -, hpriv, -⟩ := s.csrWritten_frame c w
    rw [h]
    exact .inl (by simpa using hpriv)
  | mret hi => subst hi; cases hret
  | sret hi _ => subst hi; cases hret
  | raised c v => exact .inr ⟨rfl, rfl, rfl, rfl, rfl⟩
  | raisedInStore _ _ _ w c v => exact .inr (by simp [State.epcOf])

/-! ## What an instruction that retires leaves (O59) -/

/-- A register that is no destination keeps its value. -/
theorem Effect.getX (h : Effect s i u) {r : Reg} (hr : i.xDest ≠ some r) : u.getX r = s.getX r := by
  induction h with
  | refl => rfl
  | @setX u rd _ hrd v ih =>
    rw [State.getX_setX_other u (fun e : r = rd => hr (by rw [e, hrd])) v, ih]
  | setF _ _ v ih => exact ih
  | accrue _ _ fl ih => exact ih
  | writeBytes _ _ v ih => rw [State.getX_writeBytes, ih]
  | reserve _ _ r ih => exact ih
  | syncFetch _ => rfl

/-- Writing an f register leaves the others. -/
theorem State.getF_setF_other (s : State) {i j : FReg} (h : j ≠ i) (v : Word) : (s.setF i v).getF j = s.getF j := by
  simp only [State.getF, State.setF_f, State.setF_cfg]
  rw [Vector.getElem_set_ne _ _ fun e => h (BitVec.eq_of_toNat_eq e.symm)]
  rfl

theorem State.getF_writeBytes (s : State) (a : Word) (n : Nat) (v : Word) (r : FReg) :
    (s.writeBytes a n v).getF r = s.getF r := by
  rw [State.writeBytes_unchanged]; rfl

theorem Effect.getF (h : Effect s i u) {r : FReg} (hr : i.fDest ≠ some r) : u.getF r = s.getF r := by
  induction h with
  | refl => rfl
  | setX _ _ v ih => rw [State.getF_setX, ih]
  | @setF u rd _ hrd v ih => rw [State.getF_setF_other u (fun e : r = rd => hr (by rw [e, hrd])) v, ih]
  | accrue _ _ fl ih => exact ih
  | writeBytes _ _ v ih => rw [State.getF_writeBytes, ih]
  | reserve _ _ r ih => exact ih
  | syncFetch _ => rfl

theorem Effect.fflags (h : Effect s i u) (hi : i.accrues = false) : u.fflags = s.fflags := by
  induction h with
  | refl => rfl
  | setX _ _ v ih => rw [State.setX_fflags, ih]
  | setF _ _ v ih => exact ih
  | accrue _ hacc fl ih => exact absurd hacc (Bool.eq_false_iff.1 hi)
  | writeBytes _ _ v ih => rw [State.writeBytes_fflags, ih]
  | reserve _ _ r ih => exact ih
  | syncFetch _ => rfl

theorem Effect.mstatus (h : Effect s i u) (hi : i.accrues = false) (hf : i.fDest = none) : u.mstatus = s.mstatus := by
  induction h with
  | refl => rfl
  | setX _ _ v ih => rw [State.setX_mstatus, ih]
  | setF _ hrd v ih => rw [hf] at hrd; cases hrd
  | accrue _ hacc fl ih => exact absurd hacc (Bool.eq_false_iff.1 hi)
  | writeBytes _ _ v ih => rw [State.writeBytes_mstatus, ih]
  | reserve _ _ r ih => exact ih
  | syncFetch _ => rfl

theorem Effect.imem (h : Effect s i u) (hi : i ≠ .fenceI) : u.imem = s.imem := by
  induction h with
  | refl => rfl
  | setX _ _ v ih => rw [State.setX_imem, ih]
  | setF _ _ v ih => exact ih
  | accrue _ _ fl ih => exact ih
  | writeBytes _ _ v ih => rw [State.writeBytes_imem, ih]
  | reserve _ _ r ih => exact ih
  | syncFetch h => exact absurd h hi

/-- A byte outside the store or the atomic access keeps its value. -/
theorem Effect.byte (h : Effect s i u) {b : Word}
    (hb : ∀ a n, s.stores i = some (a, n) ∨ s.atomics i = some (a, n) →
      ∀ k < n, s.norm b ≠ s.norm (a + BitVec.ofNat 64 k)) : u.byte b = s.byte b := by
  induction h with
  | refl => rfl
  | @setX u rd _ _ v ih => rw [State.byte_congr (State.setX_cfg u rd v) (State.setX_mem u rd v), ih]
  | setF _ _ v ih => exact ih
  | accrue _ _ fl ih => exact ih
  | @writeBytes u a n h ha v ih =>
    have hnorm : ∀ w, u.norm w = s.norm w := State.norm_congr h.cfg
    rw [State.byte_writeBytes_other v fun k hk => by rw [hnorm, hnorm]; exact hb a n ha k hk, ih]
  | reserve _ _ r ih => exact ih
  | syncFetch _ => rfl

theorem Effect.reservation (h : Effect s i u) (hs : s.stores i = none) (ha : s.atomics i = none)
    (hi : ∀ aq rl rd rs1, i ≠ .lrW aq rl rd rs1 ∧ i ≠ .lrD aq rl rd rs1) : u.reservation = s.reservation := by
  induction h with
  | refl => rfl
  | setX _ _ v ih => rw [State.setX_reservation, ih]
  | setF _ _ v ih => exact ih
  | accrue _ _ fl ih => exact ih
  | writeBytes _ h v ih =>
    rcases h with h | h
    · rw [hs] at h; cases h
    · rw [ha] at h; cases h
  | reserve _ h r ih =>
    rcases h with ⟨an, h⟩ | ⟨aq, rl, rd, rs1, h | h⟩
    · rw [ha] at h; cases h
    · exact absurd h (hi aq rl rd rs1).1
    · exact absurd h (hi aq rl rd rs1).2
  | syncFetch _ => rfl

/-- No instruction is both a store and an atomic access. -/
theorem State.atomics_of_stores {p : Word × Nat} (h : s.stores i = some p) : s.atomics i = none := by
  cases i <;> cases h <;> rfl

/-- The state before pc and the count move keeps what O59 says. -/
theorem Effect.keeps (h : Effect s i u) (a : Word) : Keeps i s (u.jumped a) := by
  have hframe : u.jumped a = _ := congrArg (fun w => w.jumped a) h.frame
  refine ⟨h.cfg, fun _ hr => h.getX hr, fun _ hr => h.getF hr, fun hi => h.fflags hi, fun hi hf => h.mstatus hi hf, ?_⟩
  rw [hframe]
  exact ⟨rfl, rfl, rfl, rfl, rfl, rfl, rfl, rfl, rfl, rfl, rfl, rfl, rfl, rfl, rfl, rfl, rfl, rfl, rfl, rfl, rfl,
    fun hi => h.imem hi⟩

/-- A sequential end is a transfer to the address of the next instruction. -/
theorem State.passed_eq_jumped (u : State) (len : Word) : u.passed len = u.jumped (u.norm (u.pc + len)) := rfl

/-- An instruction that is neither a CSR instruction nor a return, and counts as retired, had its effect and moved pc. -/
theorem Outcome.effect_of_retired (h : Outcome s i t) (hcsr : i.isCsr = false) (hret : i.isReturn = false)
    (hn : t.minstret = s.minstret + 1) : ∃ u a, Effect s i u ∧ t = u.jumped a := by
  cases h with
  | passed _ h => exact ⟨_, _, h, rfl⟩
  | jumped h _ _ => exact ⟨_, _, h, rfl⟩
  | csr w h _ => exact absurd h (Bool.eq_false_iff.1 hcsr)
  | mret hi => subst hi; cases hret
  | sret hi _ => subst hi; cases hret
  | raised c v =>
    rw [State.enterTrap_minstret] at hn
    bv_omega
  | raisedInStore _ _ _ w c v =>
    rw [State.enterTrap_minstret, State.writeBytes_minstret] at hn
    bv_omega

/-- Settles O59: the effect of an instruction that retires is bounded by what its operands name. -/
theorem retiredInstructionFrame : Obligations.RetiredInstructionFrame := by
  unfold Obligations.RetiredInstructionFrame
  intro i s t hcsr hret h hn
  obtain ⟨u, pc, hu, rfl⟩ := (exec_outcome h).effect_of_retired hcsr hret hn
  refine ⟨hu.keeps pc, fun hs ha b => ?_, fun a n han b hb => ?_, fun hs ha hi => hu.reservation hs ha hi⟩
  · refine hu.byte fun a n han => ?_
    rcases han with h | h
    · rw [hs] at h; cases h
    · rw [ha] at h; cases h
  · refine hu.byte fun a' n' han' k hk => ?_
    have hsame : (a', n') = (a, n) := by
      rcases han with h | h <;> rcases han' with h' | h'
      · exact Option.some.inj (h'.symm.trans h)
      · rw [State.atomics_of_stores h] at h'; cases h'
      · rw [State.atomics_of_stores h'] at h; cases h
      · exact Option.some.inj (h'.symm.trans h)
    cases hsame
    exact hb k hk

/-! ## What an instruction that raises leaves (O60) -/

/-- An instruction that is neither a CSR instruction nor a return, and does not count as retired, entered the trap handler:
from s, or, when it is a split store, from s with its first bytes written. -/
theorem Outcome.trap_of_not_retired (h : Outcome s i t) (hcsr : i.isCsr = false) (hret : i.isReturn = false)
    (hn : t.minstret = s.minstret) :
    ∃ (c : Cause) (v : Word), t = s.enterTrap false c.code v ∨
      ∃ a n m w, s.stores i = some (a, n) ∧ s.cfg.misaligned = .split ∧ m ≤ n ∧
        t = (s.writeBytes a m w).enterTrap false c.code v := by
  have hne : ∀ n : BitVec 64, n + 1 ≠ n := fun n => by bv_omega
  cases h with
  | passed _ h => exact absurd (h.minstret ▸ hn) (hne _)
  | jumped h _ _ => exact absurd (h.minstret ▸ hn) (hne _)
  | csr w h _ => exact absurd h (Bool.eq_false_iff.1 hcsr)
  | mret hi => subst hi; cases hret
  | sret hi _ => subst hi; cases hret
  | raised c v => exact ⟨c, v, .inl rfl⟩
  | raisedInStore hs hsplit hm w c v => exact ⟨c, v, .inr ⟨_, _, _, w, hs, hsplit, hm, rfl⟩⟩

/-- Settles O60: only trap entry happens, but for the bytes of a split store. -/
theorem raisingInstructionFrame : Obligations.RaisingInstructionFrame := by
  unfold Obligations.RaisingInstructionFrame
  intro i s t hcsr hret h hn
  obtain ⟨c, v, rfl | ⟨a, n, m, w, hs, hsplit, hm, rfl⟩⟩ := (exec_outcome h).trap_of_not_retired hcsr hret hn
  · exact ⟨rfl, rfl, rfl, rfl, fun _ => rfl, fun _ => rfl, fun _ _ _ _ _ => rfl, rfl⟩
  · refine ⟨rfl, ?_, rfl, ?_, fun htrap => ?_, fun hnone => ?_, fun a' n' hs' b hb => ?_, ?_⟩
    · simp [State.epcOf]
    · simp
    · rw [hsplit] at htrap; cases htrap
    · rw [hs] at hnone; cases hnone
    · obtain ⟨rfl, rfl⟩ : a = a' ∧ n = n' := by simpa using hs.symm.trans hs'
      exact State.byte_writeBytes_other w fun k hk => hb k (hk.trans_le hm)
    · rw [State.writeBytes_unchanged]
      rfl

end Sys2Proof.Machine
end

section
/-!
PROOF of the invariant (O11): what each way of ending does to it.
-/
namespace Sys2Proof.Machine

open Sys2Proof

/-! ## Addresses of instructions -/

section

variable (s : State)

/-- A target is good when it is a multiple of IALIGN/8 (R25). -/
theorem State.badTarget_eq_false_iff (t : Word) :
    s.badTarget t = false ↔ t.toNat % (if s.cfg.extC then 2 else 4) = 0 := by
  have hbits : ∀ n, bits t 0 n = 0#n ↔ t.toNat % 2 ^ n = 0 := fun n => by
    rw [← BitVec.toNat_inj, bits, BitVec.extractLsb'_toNat]
    simp
  unfold State.badTarget
  cases s.cfg.extC
  · simpa using hbits 2
  · simpa using hbits 1

theorem State.badTarget_congr {s u : State} (h : u.cfg = s.cfg) (t : Word) : u.badTarget t = s.badTarget t := by
  rw [State.badTarget, State.badTarget, h]

theorem State.norm_toNat_rv32 {s : State} (h : s.cfg.xlen = .rv32) (v : Word) : (s.norm v).toNat = v.toNat % 2 ^ 32 := by
  rw [State.norm_toNat, h]; rfl

/-- The remainder of an address by IALIGN/8 is that of its low bits. -/
theorem State.norm_toNat_mod (v : Word) (c : Bool) :
    (s.norm v).toNat % (if c then 2 else 4) = v.toNat % (if c then 2 else 4) := by
  cases h : s.cfg.xlen
  · rw [State.norm_toNat_rv32 h]
    cases c
    · exact Nat.mod_mod_of_dvd _ (by decide)
    · exact Nat.mod_mod_of_dvd _ (by decide)
  · rw [State.norm_rv64 h]

/-- Masking the n low bits off. -/
theorem and_not_low {m : Word} {n : Nat} (hm : ∀ k < 64, m.getLsbD k = decide (k < n)) (v : Word) :
    v &&& ~~~ m = (v >>> n) <<< n := by
  ext k hk
  have hk' := hm k hk
  grind

theorem and_not_low_toNat {m : Word} {n : Nat} (hm : ∀ k < 64, m.getLsbD k = decide (k < n)) (v : Word) :
    (v &&& ~~~ m).toNat = v.toNat / 2 ^ n * 2 ^ n := by
  rw [and_not_low hm, BitVec.toNat_shiftLeft, BitVec.toNat_ushiftRight, Nat.shiftRight_eq_div_pow, Nat.shiftLeft_eq]
  exact Nat.mod_eq_of_lt ((Nat.div_mul_le_self _ _).trans_lt v.isLt)

theorem and_not_three_toNat (v : Word) : (v &&& ~~~ 3#64).toNat = v.toNat / 4 * 4 :=
  and_not_low_toNat (n := 2) (by decide) v

theorem and_not_one_toNat (v : Word) : (v &&& ~~~ 1#64).toNat = v.toNat / 2 * 2 :=
  and_not_low_toNat (n := 1) (by decide) v

/-- The remainder by IALIGN/8 of a value with its low bits masked (R35). -/
theorem masked_toNat_mod (v : Word) (c : Bool) :
    (if c then v &&& ~~~ 1#64 else v &&& ~~~ 3#64).toNat % (if c then 2 else 4) = 0 := by
  cases c
  · change (v &&& ~~~ 3#64).toNat % 4 = 0
    rw [and_not_three_toNat, Nat.mul_mod_left]
  · change (v &&& ~~~ 1#64).toNat % 2 = 0
    rw [and_not_one_toNat, Nat.mul_mod_left]

theorem State.badTarget_epcOf (v : Word) : s.badTarget (s.epcOf v) = false := by
  rw [State.badTarget_eq_false_iff, State.epcOf, State.norm_toNat_mod]
  exact masked_toNat_mod v _

theorem State.epcOf_of_good {s : State} {v : Word} (hgood : s.badTarget v = false) (hfit : s.norm v = v) :
    s.epcOf v = v := by
  rw [State.badTarget_eq_false_iff] at hgood
  have hmask : (if s.cfg.extC then v &&& ~~~ 1#64 else v &&& ~~~ 3#64) = v := by
    rw [← BitVec.toNat_inj]
    cases hc : s.cfg.extC <;> rw [hc] at hgood
    · simp only [Bool.false_eq_true, ↓reduceIte, and_not_three_toNat] at hgood ⊢; omega
    · simp only [↓reduceIte, and_not_one_toNat] at hgood ⊢; omega
  rw [State.epcOf, hmask, hfit]

theorem State.norm_epcOf (v : Word) : s.norm (s.epcOf v) = s.epcOf v := State.norm_norm s _

/-- What mepc or sepc hold is read back whole. -/
theorem State.epcOf_epcOf (v : Word) : s.epcOf (s.epcOf v) = s.epcOf v :=
  State.epcOf_of_good (s.badTarget_epcOf v) (s.norm_epcOf v)

/-- BASE is a multiple of 4, and so are the vectored addresses (R654). -/
theorem State.badTarget_handler (irq : Bool) (code : Nat) : s.badTarget (s.handler irq code) = false := by
  rw [State.badTarget_eq_false_iff, State.handler, State.norm_toNat_mod]
  have hbase := and_not_three_toNat s.mtvec
  have hlt := s.mtvec.isLt
  split
  · rw [BitVec.toNat_add, BitVec.toNat_ofNat, hbase]
    cases s.cfg.extC
    · simp only [Bool.false_eq_true, ↓reduceIte]; omega
    · simp only [↓reduceIte]; omega
  · rw [hbase]
    cases s.cfg.extC
    · simp only [Bool.false_eq_true, ↓reduceIte]; omega
    · simp only [↓reduceIte]; omega

theorem State.norm_handler (irq : Bool) (code : Nat) : s.norm (s.handler irq code) = s.handler irq code :=
  State.norm_norm s _

/-- Past an instruction of the machine pc is aligned again: one of 2 bytes needs C. -/
theorem State.badTarget_past {s : State} {i : Instr} (hp : s.permits i = true) (hpc : s.badTarget s.pc = false) :
    s.badTarget (s.norm (s.pc + i.ext.byteLength)) = false := by
  rw [State.badTarget_eq_false_iff] at hpc ⊢
  rw [State.norm_toNat_mod, BitVec.toNat_add]
  have hpclt := s.pc.isLt
  cases hC : s.cfg.extC with
  | true =>
    rw [hC] at hpc
    have hlen : i.ext.byteLength.toNat % 2 = 0 := by cases i.ext <;> rfl
    simp only [↓reduceIte] at hpc ⊢
    omega
  | false =>
    rw [hC] at hpc
    have hlen : i.ext.byteLength.toNat = 4 := by
      simp only [State.permits, Params.available, Bool.and_eq_true] at hp
      obtain ⟨⟨⟨hhas, -⟩, -⟩, -⟩ := hp
      cases hext : i.ext <;> rw [hext] at hhas <;> simp [Params.has, hC] at hhas <;> rfl
    simp only [Bool.false_eq_true, ↓reduceIte] at hpc ⊢
    omega

/-! ## XLEN-bit values -/

theorem State.fits_iff (v : Word) : s.fits v = true ↔ s.norm v = v := beq_iff_eq

/-- mcause holds a code below 16 and the interrupt bit, which fit XLEN bits (R652). -/
theorem State.causeWord_toNat (irq : Bool) {code : Nat} (h : code < 16) :
    (s.causeWord irq code).toNat = (if irq then 2 ^ (s.width - 1) else 0) + code := by
  rw [State.causeWord, BitVec.toNat_ofNat, State.width]
  apply Nat.mod_eq_of_lt
  cases s.cfg.xlen <;> cases irq <;> simp [Xlen.bits] <;> omega

theorem State.norm_causeWord (irq : Bool) {code : Nat} (h : code < 16) :
    s.norm (s.causeWord irq code) = s.causeWord irq code := by
  rw [← BitVec.toNat_inj, State.norm_toNat, State.causeWord_toNat s irq h, State.width]
  apply Nat.mod_eq_of_lt
  cases s.cfg.xlen <;> cases irq <;> simp [Xlen.bits] <;> omega

theorem Cause.code_lt (c : Cause) : c.code < 16 := by
  cases c with
  | environmentCall p => cases p <;> decide
  | _ => decide

/-- A low bit of a value modulo 2^XLEN. -/
theorem State.getLsbD_norm (v : Word) {k : Nat} (hk : k < 32) : (s.norm v).getLsbD k = v.getLsbD k := by
  cases h : s.cfg.xlen
  · rw [State.norm_rv32 h]
    simp [hk, hk.trans (by decide : 32 < 64)]
  · rw [State.norm_rv64 h]

/-- A trap vector keeps a MODE of 0 or 1 (R38). -/
theorem State.writeTvec_legal {old : Word} (h : old.getLsbD 1 = false) (v : Word) :
    (s.writeTvec old v).getLsbD 1 = false := by
  rw [State.writeTvec, State.getLsbD_norm s _ (by decide)]
  cases hv : v.getLsbD 1
  · exact hv
  · rw [if_pos rfl, BitVec.getLsbD_or, BitVec.getLsbD_and, BitVec.getLsbD_and, h, hv]
    rfl

/-- MPP names a mode that exists after a write too (R34). -/
theorem State.hasMode_writeMpp (h : Params.hasMode s.cfg s.mstatus.mpp = true) (v : Word) :
    Params.hasMode s.cfg (s.writeMpp v) = true := by
  unfold State.writeMpp
  split
  · split
    · assumption
    · exact h
  · exact h

/-! ## The invariant, part by part -/

/-- The registers that hold XLEN bits, x apart. -/
structure State.ScalarsFit : Prop where
  pc : s.norm s.pc = s.pc
  mepc : s.norm s.mepc = s.mepc
  sepc : s.norm s.sepc = s.sepc
  mcause : s.norm s.mcause = s.mcause
  mtval : s.norm s.mtval = s.mtval
  mscratch : s.norm s.mscratch = s.mscratch
  mtvec : s.norm s.mtvec = s.mtvec
  scause : s.norm s.scause = s.scause
  stval : s.norm s.stval = s.stval
  sscratch : s.norm s.sscratch = s.sscratch
  stvec : s.norm s.stvec = s.stvec

/-- The invariant, each of its clauses by name. -/
structure State.Holds : Prop where
  legal : Params.legal s.cfg = true
  pcGood : s.badTarget s.pc = false
  priv : Params.hasMode s.cfg s.priv = true
  mpp : Params.hasMode s.cfg s.mstatus.mpp = true
  mepc : s.epcOf s.mepc = s.mepc
  sepc : s.epcOf s.sepc = s.sepc
  mtvec : s.mtvec.getLsbD 1 = false
  stvec : s.stvec.getLsbD 1 = false
  x : ∀ (r : Nat) (h : r < 32), s.norm s.x[r] = s.x[r]
  scalars : s.ScalarsFit
  mem : Memory.wf s.mem = true
  imem : Memory.wf s.imem = true

theorem State.registersFit_iff :
    s.registersFit = true ↔ (∀ (r : Nat) (h : r < 32), s.norm s.x[r] = s.x[r]) ∧ s.ScalarsFit := by
  simp only [State.registersFit, Bool.and_eq_true, Vector.all_eq_true, State.fits_iff]
  constructor
  · rintro ⟨⟨⟨⟨⟨⟨⟨⟨⟨⟨⟨h0, h1⟩, h2⟩, h3⟩, h4⟩, h5⟩, h6⟩, h7⟩, h8⟩, h9⟩, h10⟩, h11⟩
    exact ⟨h0, h1, h2, h3, h4, h5, h6, h7, h8, h9, h10, h11⟩
  · rintro ⟨h0, h1, h2, h3, h4, h5, h6, h7, h8, h9, h10, h11⟩
    exact ⟨⟨⟨⟨⟨⟨⟨⟨⟨⟨⟨h0, h1⟩, h2⟩, h3⟩, h4⟩, h5⟩, h6⟩, h7⟩, h8⟩, h9⟩, h10⟩, h11⟩

theorem State.inv_iff : s.Inv ↔ s.Holds := by
  simp only [State.Inv, State.pcAligned, State.modesExist, State.epcsMasked, State.vectorsLegal, State.memoryCanonical,
    State.registersFit_iff, Bool.and_eq_true, Bool.not_eq_true', beq_iff_eq]
  constructor
  · rintro ⟨hl, hpc, ⟨hp, hm⟩, ⟨he, hs⟩, ⟨ht, hv⟩, ⟨hx, hr⟩, hmem, himem⟩
    exact ⟨hl, hpc, hp, hm, he, hs, ht, hv, hx, hr, hmem, himem⟩
  · rintro ⟨hl, hpc, hp, hm, he, hs, ht, hv, hx, hr, hmem, himem⟩
    exact ⟨hl, hpc, ⟨hp, hm⟩, ⟨he, hs⟩, ⟨ht, hv⟩, ⟨hx, hr⟩, hmem, himem⟩

end

variable {s t u : State} {i : Instr}

/-! ## Each change keeps the invariant -/

theorem State.Holds.setX (h : s.Holds) (rd : Reg) (v : Word) : (s.setX rd v).Holds := by
  by_cases hrd : rd = 0
  · subst hrd; exact h
  · rw [State.setX, if_neg hrd]
    refine { h with x := fun r hr => ?_, scalars := { h.scalars with } }
    change s.norm ((s.x.set rd.toNat (s.norm v) rd.isLt)[r]) = (s.x.set rd.toNat (s.norm v) rd.isLt)[r]
    rw [Vector.getElem_set]
    split
    · exact State.norm_norm s v
    · exact h.x r hr

theorem State.Holds.setPc (h : s.Holds) {a : Word} (hgood : s.badTarget a = false) (hfit : s.norm a = a) :
    ({ s with pc := a } : State).Holds :=
  { h with pcGood := hgood, scalars := { h.scalars with pc := hfit } }

theorem State.Holds.jumped (h : s.Holds) {a : Word} (hgood : s.badTarget a = false) (hfit : s.norm a = a) :
    (s.jumped a).Holds :=
  { h.setPc hgood hfit with scalars := { (h.setPc hgood hfit).scalars with } }

theorem State.Holds.writeBytes (h : s.Holds) (a : Word) (n : Nat) (v : Word) : (s.writeBytes a n v).Holds := by
  have hmem := State.wf_writeBytes h.mem a n v
  rw [State.writeBytes_unchanged]
  exact { h with mem := hmem, scalars := { h.scalars with } }

/-- The effects of instructions keep the invariant. -/
theorem Effect.holds (h : Effect s i u) (hs : s.Holds) : u.Holds := by
  induction h with
  | refl => exact hs
  | setX _ _ v ih => exact ih.setX _ v
  | setF _ _ v ih => exact { ih with scalars := { ih.scalars with } }
  | accrue _ _ fl ih => exact { ih with scalars := { ih.scalars with } }
  | writeBytes _ _ v ih => exact ih.writeBytes _ _ v
  | reserve _ _ r ih => exact { ih with scalars := { ih.scalars with } }
  | syncFetch _ => exact { hs with imem := hs.mem, scalars := { hs.scalars with } }

/-- Every CSR write keeps the invariant: the field it touches takes a form the register may have. -/
theorem State.Holds.csrWrite (h : s.Holds) (c : Csr) (v : Word) : (s.csrWrite c v).Holds := by
  have hfit : ∀ w, s.norm (s.norm w) = s.norm w := State.norm_norm s
  cases c
  case stvec => exact { h with stvec := s.writeTvec_legal h.stvec v, scalars := { h.scalars with stvec := hfit _ } }
  case mtvec => exact { h with mtvec := s.writeTvec_legal h.mtvec v, scalars := { h.scalars with mtvec := hfit _ } }
  case sepc => exact { h with sepc := s.epcOf_epcOf v, scalars := { h.scalars with sepc := s.norm_epcOf v } }
  case mepc => exact { h with mepc := s.epcOf_epcOf v, scalars := { h.scalars with mepc := s.norm_epcOf v } }
  case sscratch => exact { h with scalars := { h.scalars with sscratch := hfit v } }
  case scause => exact { h with scalars := { h.scalars with scause := hfit v } }
  case stval => exact { h with scalars := { h.scalars with stval := hfit v } }
  case mscratch => exact { h with scalars := { h.scalars with mscratch := hfit v } }
  case mcause => exact { h with scalars := { h.scalars with mcause := hfit v } }
  case mtval => exact { h with scalars := { h.scalars with mtval := hfit v } }
  case mstatus => exact { h with mpp := s.hasMode_writeMpp h.mpp v, scalars := { h.scalars with } }
  all_goals exact { h with scalars := { h.scalars with } }

theorem State.Holds.csrDone (h : s.Holds) (c : Csr) (rd : Reg) (w : Option Word) : (s.csrDone c rd w).Holds := by
  obtain ⟨n, hn⟩ := s.csrDone_eq_retire c rd w
  rw [hn]
  have hw : (s.csrWritten c w).Holds := by
    cases w with
    | none => exact h
    | some v => exact h.csrWrite c v
  have hx := hw.setX rd (s.csrRead c)
  have hj := hx.setPc (State.badTarget_past (i := .ecall) (State.permits_of_has rfl rfl rfl rfl) hx.pcGood) (State.norm_norm _ _)
  exact { hj with scalars := { hj.scalars with } }

/-- Trap entry with a code below 16 keeps the invariant (R652). -/
theorem State.Holds.enterTrap (h : s.Holds) (irq : Bool) {code : Nat} (hcode : code < 16) (v : Word) :
    (s.enterTrap irq code v).Holds where
  legal := h.legal
  pcGood := s.badTarget_handler irq code
  priv := rfl
  mpp := h.priv
  mepc := s.epcOf_epcOf s.pc
  sepc := h.sepc
  mtvec := h.mtvec
  stvec := h.stvec
  x := h.x
  scalars := { h.scalars with
    pc := s.norm_handler irq code, mepc := s.norm_epcOf s.pc, mcause := s.norm_causeWord irq hcode
    mtval := s.norm_norm v }
  mem := h.mem
  imem := h.imem

theorem State.Holds.returnM (h : s.Holds) : s.returnM.retire.Holds where
  legal := h.legal
  pcGood := s.badTarget_epcOf s.mepc
  priv := h.mpp
  mpp := by
    change Params.hasMode s.cfg s.mppAfterReturn = true
    cases hU : s.cfg.hasU with
    | true => rw [State.mppAfterReturn_of_hasU hU]; exact hU
    | false => rw [State.mppAfterReturn_of_not_hasU hU]; exact h.mpp
  mepc := h.mepc
  sepc := h.sepc
  mtvec := h.mtvec
  stvec := h.stvec
  x := h.x
  scalars := { h.scalars with pc := s.norm_epcOf s.mepc }
  mem := h.mem
  imem := h.imem

/-- S-mode needs U-mode (R6). -/
theorem Params.hasU_of_hasS {p : Params} (h : Params.legal p = true) (hS : p.hasS = true) : p.hasU = true := by
  cases hU : p.hasU with
  | true => rfl
  | false => simp [Params.legal, hS, hU] at h

theorem State.Holds.returnS (h : s.Holds) (hlegal : s.sretLegal = true) : s.returnS.retire.Holds where
  legal := h.legal
  pcGood := s.badTarget_epcOf s.sepc
  priv := by
    obtain ⟨hS, -⟩ := s.sretLegal_iff.1 hlegal
    change Params.hasMode s.cfg (if s.mstatus.spp then .supervisor else .user) = true
    split
    · exact hS
    · exact Params.hasU_of_hasS h.legal hS
  mpp := h.mpp
  mepc := h.mepc
  sepc := h.sepc
  mtvec := h.mtvec
  stvec := h.stvec
  x := h.x
  scalars := { h.scalars with pc := s.norm_epcOf s.sepc }
  mem := h.mem
  imem := h.imem

/-- However an instruction ends, the invariant holds there. -/
theorem Outcome.holds (h : Outcome s i t) (hs : s.Holds) : t.Holds := by
  cases h with
  | @passed u hp h =>
    have hnorm : u.norm (u.pc + i.ext.byteLength) = s.norm (s.pc + i.ext.byteLength) := by
      rw [State.norm_congr h.cfg, h.pc]
    refine (h.holds hs).jumped ?_ (State.norm_norm u _)
    rw [hnorm, State.badTarget_congr h.cfg]
    exact State.badTarget_past hp hs.pcGood
  | jumped h hbad hfit =>
    refine (h.holds hs).jumped ?_ ?_
    · rw [State.badTarget_congr h.cfg]; exact hbad
    · rw [State.norm_congr h.cfg]; exact hfit
  | csr w _ _ => exact hs.csrDone _ _ w
  | mret _ => exact hs.returnM
  | sret _ hlegal => exact hs.returnS hlegal
  | raised c v => exact hs.enterTrap false c.code_lt v
  | raisedInStore _ _ _ w c v => exact (hs.writeBytes _ _ w).enterTrap false c.code_lt v

/-! ## A step keeps the invariant (O11) -/

theorem State.Holds.sampleLines (h : s.Holds) : s.sampleLines.Holds := by
  unfold State.sampleLines
  split
  · exact h
  · exact { h with scalars := { h.scalars with } }

theorem State.Holds.tick (h : s.Holds) : s.tick.Holds := { h with scalars := { h.scalars with } }

/-- An interrupt that is taken has a code of R649. -/
theorem State.interruptTaken_lt {c : Nat} (h : s.interruptTaken = some c) : c < 16 := by
  unfold State.interruptTaken at h
  split at h
  · have horder : ∀ c ∈ interruptOrder, c < 16 := by decide
    exact horder c (List.mem_of_find?_eq_some h)
  · cases h

/-- Settles O11: the lines, an interrupt or an instruction, and the tick each keep the invariant. -/
theorem stepKeepsInvariant : Obligations.StepKeepsInvariant := by
  unfold Obligations.StepKeepsInvariant
  intro s t hinv h
  have hs := ((s.inv_iff).1 hinv).sampleLines
  rw [State.inv_iff]
  obtain ⟨u, rfl, hu⟩ := step_next h
  refine State.Holds.tick ?_
  rcases hu with ⟨c, hc, hu⟩ | ⟨-, ⟨-, hu⟩ | ⟨c, i, -, -, hu⟩ | ⟨c, r, -, -, hu⟩⟩
  · obtain ⟨-, rfl⟩ := State.trap_next hu
    exact hs.enterTrap true (State.interruptTaken_lt hc) 0
  · obtain ⟨-, rfl⟩ := State.raise_next hu
    exact hs.enterTrap false (Cause.code_lt _) _
  · exact (exec_outcome hu).holds hs
  · obtain ⟨-, rfl⟩ := State.raise_next hu
    exact hs.enterTrap false (Cause.code_lt _) _

end Sys2Proof.Machine
end

section
/-!
PROOFS about memory (O17, O18), reset (O10, O14), trap entry and its exceptions (O41, O42, O46).
-/
namespace Sys2Proof.Machine

open Sys2Proof

/-! ## Memory (O17, O18) -/

/-- Settles O17, from the rules of the list form. -/
theorem memoryHoldsWhatWasWritten : Obligations.MemoryHoldsWhatWasWritten := by
  unfold Obligations.MemoryHoldsWhatWasWritten
  intro m n hm hn
  refine ⟨fun a v => ⟨Memory.wf_write hm a v, Memory.read_write_same hm a v, fun b hb => ?_⟩, Memory.eq_of_read_eq hm hn⟩
  exact Memory.read_write_other m hb v

/-- Whether a byte is reserved depends on the reservation and XLEN only. -/
theorem State.reserves_congr {s u : State} (hcfg : u.cfg = s.cfg) (hres : u.reservation = s.reservation) (a : Word) :
    u.reserves a = s.reserves a := by
  simp only [State.reserves, hres, State.norm_congr hcfg]

theorem State.setByte_of_reserved {s : State} {a : Word} (h : s.reserves a = true) (v : Byte) :
    (s.setByte a v).reservation = none := if_pos h

theorem State.setByte_of_not_reserved {s : State} {a : Word} (h : s.reserves a = false) (v : Byte) :
    (s.setByte a v).reservation = s.reservation := if_neg (Bool.eq_false_iff.1 h)

/-- A reservation is not made by a store. -/
theorem State.writeBytes_reservation_none {s : State} (h : s.reservation = none) (a : Word) (n : Nat) (v : Word) :
    (s.writeBytes a n v).reservation = none := by
  induction n generalizing s a v with
  | zero => exact h
  | succ n ih =>
    refine ih ?_ _ _
    rw [State.setByte_reservation, h]
    exact ite_self none

/-- A store to other bytes leaves the reservation (R41). -/
theorem State.writeBytes_reservation_kept {s : State} {a : Word} {n : Nat}
    (h : ∀ k < n, s.reserves (a + BitVec.ofNat 64 k) = false) (v : Word) :
    (s.writeBytes a n v).reservation = s.reservation := by
  induction n generalizing s a v with
  | zero => rfl
  | succ n ih =>
    obtain ⟨hfirst, hrest⟩ := (forall_bytes_succ (fun b => s.reserves b = false) a n).2 h
    have hkept := State.setByte_of_not_reserved hfirst (v.setWidth 8)
    rw [State.writeBytes, ih (fun k hk => ?_), hkept]
    rw [State.reserves_congr (u := s.setByte a _) (s := s) rfl hkept]
    exact hrest k hk

/-- A store to a reserved byte ends the reservation (R41 c). -/
theorem State.writeBytes_reservation_lost {s : State} {a : Word} {n : Nat}
    (h : ∃ k < n, s.reserves (a + BitVec.ofNat 64 k) = true) (v : Word) :
    (s.writeBytes a n v).reservation = none := by
  induction n generalizing s a v with
  | zero => obtain ⟨k, hk, -⟩ := h; omega
  | succ n ih =>
    cases hfirst : s.reserves a with
    | true => exact State.writeBytes_reservation_none (State.setByte_of_reserved hfirst _) _ _ _
    | false =>
      rcases (exists_byte_succ (fun b => s.reserves b = true) a n).2 h with hr | ⟨k, hk, hr⟩
      · rw [hfirst] at hr; cases hr
      · refine ih ⟨k, hk, ?_⟩ _
        rw [State.reserves_congr (u := s.setByte a _) (s := s) rfl (State.setByte_of_not_reserved hfirst _)]
        exact hr

/-- Settles O18, from what one stored byte does. -/
theorem storedBytesAreLittleEndian : Obligations.StoredBytesAreLittleEndian := by
  unfold Obligations.StoredBytesAreLittleEndian
  intro s a n v hwf hn
  refine ⟨fun k hk => ?_, fun b hb => State.byte_writeBytes_other v hb, fun h => State.writeBytes_reservation_lost h v,
    fun h => State.writeBytes_reservation_kept h v, State.writeBytes_unchanged s a n v⟩
  rw [State.byte_writeBytes_same hwf a n (by omega) v hk, BitVec.toNat_setWidth, BitVec.toNat_ushiftRight,
    Nat.shiftRight_eq_div_pow]

/-! ## Reset (O10, O14) -/

theorem Params.norm_zero (p : Params) : Params.norm p 0 = 0 := by
  unfold Params.norm
  split <;> rfl

theorem State.norm_zero (s : State) : s.norm 0 = 0 := Params.norm_zero s.cfg

theorem State.epcOf_zero (s : State) : s.epcOf 0 = 0 := by
  rw [State.epcOf]
  cases s.cfg.extC <;> exact s.norm_zero

/-- RESET_PC is a good address exactly when it is a multiple of IALIGN/8. -/
theorem Params.bootable_iff (p : Params) :
    Params.bootable p = true ↔ Params.norm p p.resetPc = p.resetPc ∧ (State.resetOf p).badTarget p.resetPc = false := by
  have hbad : (State.resetOf p).badTarget p.resetPc =
      if p.extC then bits p.resetPc 0 1 != 0#1 else bits p.resetPc 0 2 != 0#2 := rfl
  rw [hbad, Params.bootable, Bool.and_eq_true, beq_iff_eq]
  cases p.extC <;> simp

theorem State.resetOf_holds {p : Params} (hlegal : Params.legal p = true) (hboot : Params.bootable p = true) :
    (State.resetOf p).Holds := by
  obtain ⟨hfit, hgood⟩ := (Params.bootable_iff p).1 hboot
  have hzero : (State.resetOf p).norm 0 = 0 := State.norm_zero _
  exact {
    legal := hlegal, pcGood := hgood, priv := rfl
    mpp := by
      change Params.hasMode p (if p.hasU then .user else .machine) = true
      split
      · assumption
      · rfl
    mepc := State.epcOf_zero _
    sepc := State.epcOf_zero _
    mtvec := (by decide : (0 : Word).getLsbD 1 = false)
    stvec := (by decide : (0 : Word).getLsbD 1 = false)
    x := fun r hr => by
      change (State.resetOf p).norm (Vector.replicate 32 (0 : Word))[r] = (Vector.replicate 32 (0 : Word))[r]
      rw [Vector.getElem_replicate, hzero]
    scalars := ⟨hfit, hzero, hzero, hzero, hzero, hzero, hzero, hzero, hzero, hzero, hzero⟩
    mem := rfl, imem := rfl }

/-- Settles O10. -/
theorem invariantHoldsAtReset : Obligations.InvariantHoldsAtReset := by
  unfold Obligations.InvariantHoldsAtReset
  have hall : ∀ p : Params, Params.legal p = true → Params.bootable p = true → (State.resetOf p).Inv :=
    fun p hlegal hboot => (State.inv_iff _).2 (State.resetOf_holds hlegal hboot)
  exact ⟨hall resetParams rfl rfl, hall⟩

/-- The bits of a single-bit word. -/
theorem bitAt_getLsbD (b : Bool) (k j : Nat) : (bitAt b k).getLsbD j = (b && (decide (j = k) && decide (j < 64))) := by
  cases b
  · simp [bitAt]
  · rw [bitAt, if_pos rfl, BitVec.getLsbD_shiftLeft, BitVec.getLsbD_one]
    rcases Nat.lt_trichotomy j k with h | h | h
    · simp [h, h.ne]
    · simp [h]
    · have hne : j - k ≠ 0 := by omega
      simp [h.ne', hne]

/-- Without a line of IRQ mip reads 0 (R42). -/
theorem State.readMip_of_no_irq {s : State} (h1 : s.cfg.irqMSI = false) (h2 : s.cfg.irqMTI = false)
    (h3 : s.cfg.irqMEI = false) : s.readMip = 0 ∧ s.readSip = 0 := by
  have hsip : s.readSip = 0 := by
    simp [State.readSip, Params.hasSoftPending, Params.hasIrq, h1, h2, h3, bitAt]
  exact ⟨by simp [State.readMip, hsip, h1, h2, h3, bitAt], hsip⟩

/-- MPRV does not exist: bit 17 of mstatus reads 0. -/
theorem State.readMstatus_mprv (s : State) : s.readMstatus.getLsbD 17 = false := by
  have hmpp : (BitVec.ofNat 64 (Priv.level s.mstatus.mpp) <<< 11).getLsbD 17 = false := by
    cases s.mstatus.mpp <;> rfl
  have hsd : ∀ b, (bitAt b (s.cfg.xlen.bits - 1)).getLsbD 17 = false := by
    cases s.cfg.xlen <;> intro b <;> cases b <;> rfl
  have hfs : ((s.fsField.setWidth 64) <<< 13).getLsbD 17 = false := by
    simp
  simp only [State.readMstatus, State.sharedStatus, State.uxl, State.sxl, BitVec.getLsbD_or, bitAt_getLsbD, hmpp, hsd, hfs]
  simp

/-- Settles O14: the reset state is written out, and its views are evaluated. -/
theorem resetStateAsSpecified : Obligations.ResetStateAsSpecified := by
  unfold Obligations.ResetStateAsSpecified
  refine ⟨fun p => ?_, rfl, rfl, rfl⟩
  refine ⟨rfl, rfl, rfl, rfl, rfl, State.readMstatus_mprv _,
    show ((0#3 ++ 0#5).setWidth 64 : Word) < 256 from by decide, State.norm_zero _, fun h1 h2 h3 => ?_, rfl, rfl, rfl, rfl, rfl, rfl, rfl, rfl⟩
  exact (State.readMip_of_no_irq (s := State.resetOf p) h1 h2 h3).1

/-! ## Trap entry (O41, O42, O46) -/

theorem exec_ecall (s : State) : exec .ecall s = s.raise (.environmentCall s.priv) 0 :=
  State.gate_of_permits (State.permits_of_has rfl rfl rfl rfl) _

theorem exec_ebreak (s : State) : exec .ebreak s = s.raise .breakpoint s.pc :=
  State.gate_of_permits (State.permits_of_has rfl rfl rfl rfl) _

theorem exec_cEbreak {s : State} (hC : s.cfg.extC = true) : exec .cEbreak s = s.raise .breakpoint s.pc :=
  State.gate_of_permits (State.permits_of_has (i := .cEbreak) hC rfl rfl rfl) _

theorem State.raise_of_full {s : State} (h : s.cfg.trapModel = .full) (c : Cause) (v : Word) :
    s.raise c v = .next (s.enterTrap false c.code v) := State.trap_of_full h _ _ _

theorem State.raise_of_terminal {s : State} (h : s.cfg.trapModel = .terminal) (c : Cause) (v : Word) :
    s.raise c v = .fault (.trapped false c.code (s.norm v) s.pc) := State.trap_of_terminal h _ _ _

/-- mcause of an exception is its code. -/
theorem State.causeWord_exception (s : State) (code : Nat) : s.causeWord false code = BitVec.ofNat 64 code := by
  rw [State.causeWord, if_neg Bool.false_ne_true, Nat.zero_add]

/-- Settles O41: each of the three is trap entry. -/
theorem environmentCallAndBreakpoint : Obligations.EnvironmentCallAndBreakpoint := by
  unfold Obligations.EnvironmentCallAndBreakpoint
  intro s hfull
  have hbreak := State.raise_of_full hfull .breakpoint s.pc
  refine ⟨⟨_, (exec_ecall s).trans (State.raise_of_full hfull _ _), s.causeWord_exception _, s.norm_zero, rfl, rfl, rfl⟩,
    ⟨_, (exec_ebreak s).trans hbreak, s.causeWord_exception 3, rfl, rfl, rfl, rfl⟩, fun hC => ?_⟩
  exact ⟨_, (exec_cEbreak hC).trans hbreak, s.causeWord_exception 3, rfl, rfl, rfl, rfl⟩

/-- Settles O46. -/
theorem terminalTrapsEndTheRun : Obligations.TerminalTrapsEndTheRun := by
  unfold Obligations.TerminalTrapsEndTheRun
  intro s irq code v hterm
  refine ⟨State.trap_of_terminal hterm irq code v, ?_, (exec_ebreak s).trans (State.raise_of_terminal hterm _ _)⟩
  rw [exec_ecall, State.raise_of_terminal hterm, s.norm_zero]
  rfl

/-- The mode field of a trap vector as a remainder. -/
theorem bits_low_two_eq_one_iff (v : Word) : (bits v 0 2 == 1#2) = decide (v.toNat % 4 = 1) := by
  rw [Bool.eq_iff_iff, beq_iff_eq, decide_eq_true_eq, ← BitVec.toNat_inj, bits, BitVec.extractLsb'_toNat]
  simp

/-- BASE as a number (R654). -/
theorem State.handler_toNat_base {s : State} (hfit : s.fits s.mtvec = true) {irq : Bool}
    (h : (irq && decide (s.mtvec.toNat % 4 = 1)) = false) (code : Nat) :
    (s.handler irq code).toNat = s.mtvec.toNat / 4 * 4 := by
  have hlt := s.norm_toNat_lt s.mtvec
  rw [(s.fits_iff _).1 hfit] at hlt
  rw [State.handler, bits_low_two_eq_one_iff, h, if_neg Bool.false_ne_true, State.norm_toNat, and_not_three_toNat]
  exact Nat.mod_eq_of_lt ((Nat.div_mul_le_self _ _).trans_lt hlt)

/-- The vectored address of an interrupt (R654). -/
theorem State.handler_toNat_vectored {s : State} (h : s.mtvec.toNat % 4 = 1) {code : Nat} (hcode : code < 16) :
    (s.handler true code).toNat = (s.mtvec.toNat / 4 * 4 + 4 * code) % 2 ^ s.width := by
  have hdvd : 2 ^ s.width ∣ 2 ^ 64 := by
    rcases s.width_eq with hw | hw <;> rw [hw]
    exact Nat.pow_dvd_pow 2 (by decide)
  rw [State.handler, bits_low_two_eq_one_iff, decide_eq_true h, Bool.and_self, if_pos rfl, State.norm_toNat,
    BitVec.toNat_add, and_not_three_toNat, BitVec.toNat_ofNat, Nat.mod_eq_of_lt (show 4 * code < 2 ^ 64 by omega)]
  exact Nat.mod_mod_of_dvd _ hdvd

/-- Settles O42: trap entry is its assignments, and the handler's address is computed. -/
theorem trapEntryReachesHandler : Obligations.TrapEntryReachesHandler := by
  unfold Obligations.TrapEntryReachesHandler
  refine ⟨fun s irq code v hfull hcode => ?_, fun s irq code hfit hmode hcode => ⟨fun h => ?_, fun h => ⟨?_, ?_⟩⟩⟩
  · refine ⟨_, State.trap_of_full hfull irq code v, rfl, s.causeWord_toNat irq hcode, rfl, rfl, rfl, rfl, rfl, rfl,
      fun i hi => ?_⟩
    have hcodes : i.1.code = i.2 := by
      revert i
      decide
    rw [State.raise, hcodes]
  · exact State.handler_toNat_base hfit (by simp [h]) code
  · exact State.handler_toNat_base hfit rfl code
  · exact State.handler_toNat_vectored h hcode

end Sys2Proof.Machine
end

section
/-!
PROOFS about a step: fetch (O7), what a step does (O6, O8), interrupts (O9).
-/
namespace Sys2Proof.Machine

open Sys2Proof

/-! ## Fetch (O7) -/

/-- The line levels of a step do not change what it fetches. -/
theorem State.fetch_sampleLines (s : State) : s.sampleLines.fetch = s.fetch := by
  unfold State.sampleLines
  split <;> rfl

theorem State.grantedAll_two_of_four {s : State} {k : Access} {a : Word} (h : s.grantedAll k a 4) :
    s.grantedAll k a 2 ∧ s.grantedAll k (a + 2) 2 := by
  refine ⟨fun j hj => h j (by omega), fun j hj => ?_⟩
  have hj2 := h (j + 2) (by omega)
  rwa [Nat.add_comm, BitVec.ofNat_add, ← BitVec.add_assoc] at hj2

/-- A halfword is fetched when bits 1:0 of the first parcel are not 11 (R120). -/
theorem State.fetch_half {s : State} (hg : s.grantedAll .fetch s.pc 2)
    (h : bits (s.parcel s.pc (s.stale false)) 0 2 ≠ 3#2) :
    s.fetch = .code (.half (s.parcel s.pc (s.stale false))) := by
  simp only [State.fetch, (s.check_ok_iff .fetch s.pc 2).2 hg, if_neg h]

/-- A word is fetched when they are. -/
theorem State.fetch_word {s : State} (hg : s.grantedAll .fetch s.pc 4)
    (h : bits (s.parcel s.pc (s.stale false)) 0 2 = 3#2) :
    s.fetch = .code (.word (s.parcel (s.pc + 2) (s.stale true) ++ s.parcel s.pc (s.stale false))) := by
  obtain ⟨h1, h2⟩ := State.grantedAll_two_of_four hg
  simp only [State.fetch, (s.check_ok_iff .fetch s.pc 2).2 h1, if_pos h, (s.check_ok_iff .fetch (s.pc + 2) 2).2 h2]

/-- The bits that a fetch gives, in terms of its two parcels. -/
theorem State.fetch_of_parcels {s : State} {low high : BitVec 16} (hlow : s.parcel s.pc (s.stale false) = low)
    (hhigh : s.parcel (s.pc + 2) (s.stale true) = high) :
    (s.grantedAll .fetch s.pc 2 → bits low 0 2 ≠ 0b11#2 → s.fetch = .code (.half low)) ∧
    (s.grantedAll .fetch s.pc 4 → bits low 0 2 = 0b11#2 → s.fetch = .code (.word (high ++ low))) := by
  subst hlow hhigh
  exact ⟨State.fetch_half, State.fetch_word⟩

/-- A parcel is the new one or the old one. -/
theorem State.parcel_cases (s : State) (a : Word) (b : Bool) :
    s.parcel a b = s.parcel a false ∨ s.parcel a b = s.parcel a true := by
  cases b
  · exact .inl rfl
  · exact .inr rfl

theorem State.parcel_of_agree {s : State} {a : Word} (h : s.parcel a true = s.parcel a false) (b : Bool) :
    s.parcel a b = s.parcel a false := by
  cases b
  · rfl
  · exact h

/-- Settles O7: the three clauses name the parcels in three ways. -/
theorem fetchAssemblesParcels : Obligations.FetchAssemblesParcels := by
  unfold Obligations.FetchAssemblesParcels
  intro s
  refine ⟨fun hpinned => ?_, ⟨s.parcel_cases _ _, s.parcel_cases _ _, State.fetch_of_parcels rfl rfl⟩,
    fun hlow hhigh => State.fetch_of_parcels (State.parcel_of_agree hlow _) (State.parcel_of_agree hhigh _)⟩
  have hfresh : ∀ second, s.stale second = false := fun second => by rw [State.stale, hpinned]
  exact State.fetch_of_parcels (by rw [hfresh]; rfl) (by rw [hfresh]; rfl)

/-! ## A step without an interrupt (O6, O8) -/

theorem step_of_no_interrupt {s : State} (h : s.sampleLines.interruptTaken = none) :
    step s = tickResult (s.sampleLines.runFetched exec s.sampleLines.fetch) := by
  simp only [step, State.stepWith, h]

theorem State.runFetched_instr {s : State} {c : Code} {i : Instr} (h : decode s.cfg.xlen c = .instr i) :
    s.runFetched exec (.code c) = exec i s := by
  simp only [State.runFetched, h]

theorem State.runFetched_reject {s : State} {c : Code} {r : Reject} (h : decode s.cfg.xlen c = .reject r) :
    s.runFetched exec (.code c) = s.raise .illegalInstruction c.value := by
  simp only [State.runFetched, h]

/-- Settles O6: the step is the instruction, then the tick. -/
theorem stepRunsDecodedInstruction : Obligations.StepRunsDecodedInstruction := by
  unfold Obligations.StepRunsDecodedInstruction
  intro s c i hirq hfetch hdecode
  have hstep : step s = tickResult (exec i s.sampleLines) := by
    rw [step_of_no_interrupt hirq, hfetch, State.runFetched_instr (by rwa [State.sampleLines_cfg])]
  refine ⟨fun hpinned => ?_, fun u hu => ?_, fun r hr => ?_, fun r hr => ?_⟩
  · rw [State.sampleLines, hpinned]
  · rw [hstep, hu]; rfl
  · rw [hstep, hr]; rfl
  · rw [hstep, hr]; rfl

theorem State.check_two_denied {s : State} {k : Access} {a : Word}
    (h : s.forbidden k a = true ∨ s.forbidden k (a + 1) = true) : s.check k a 2 = .denied := by
  rw [State.check_denied_iff]
  rcases h with h | h
  · exact ⟨0, by decide, by simpa using h⟩
  · exact ⟨1, by decide, h⟩

theorem State.fetch_denied_low {s : State} (h : s.forbidden .fetch s.pc = true ∨ s.forbidden .fetch (s.pc + 1) = true) :
    s.fetch = .denied := by
  simp only [State.fetch, State.check_two_denied h]

theorem State.fetch_denied_high {s : State} (hg : s.grantedAll .fetch s.pc 2)
    (hlow : bits (s.parcel s.pc (s.stale false)) 0 2 = 0b11#2)
    (h : s.forbidden .fetch (s.pc + 2) = true ∨ s.forbidden .fetch (s.pc + 3) = true) : s.fetch = .denied := by
  have hhigh : s.check .fetch (s.pc + 2) 2 = .denied := by
    refine State.check_two_denied (h.imp_right fun h3 => ?_)
    rwa [BitVec.add_assoc]
  simp only [State.fetch, (s.check_ok_iff .fetch s.pc 2).2 hg, if_pos hlow, hhigh]

/-- A fetch that is denied is an instruction access fault at pc. -/
theorem step_of_fetch_denied {s : State} (hfull : s.cfg.trapModel = .full)
    (hirq : s.sampleLines.interruptTaken = none) (h : s.fetch = .denied) :
    step s = .next (s.sampleLines.enterTrap false 1 s.pc).tick := by
  rw [step_of_no_interrupt hirq, State.fetch_sampleLines, h, ← State.sampleLines_pc s, State.runFetched,
    State.raise_of_full (by rwa [State.sampleLines_cfg])]
  rfl

/-- Settles O8. -/
theorem fetchAndDecodeExceptions : Obligations.FetchAndDecodeExceptions := by
  unfold Obligations.FetchAndDecodeExceptions
  intro s hfull hirq
  refine ⟨fun h => step_of_fetch_denied hfull hirq (State.fetch_denied_low h),
    fun hg hlow h => step_of_fetch_denied hfull hirq (State.fetch_denied_high hg hlow h), fun c r hfetch hreject => ?_⟩
  rw [step_of_no_interrupt hirq, hfetch, State.runFetched_reject (by rwa [State.sampleLines_cfg]),
    State.raise_of_full (by rwa [State.sampleLines_cfg])]
  rfl

/-! ## Interrupts (O9) -/

theorem State.interruptsOn_iff (s : State) : s.interruptsOn = true ↔ s.priv ≠ .machine ∨ s.mstatus.mie = true := by
  unfold State.interruptsOn
  cases s.priv <;> simp

/-- A source is ready when it is pending in mip and enabled in mie. -/
def State.ready (s : State) (c : Nat) : Prop := s.readMip.getLsbD c = true ∧ s.readMie.getLsbD c = true

theorem State.enabledPending_iff (s : State) (c : Nat) : s.enabledPending.getLsbD c = true ↔ s.ready c := by
  rw [State.enabledPending, BitVec.getLsbD_and, Bool.and_eq_true, State.ready]

theorem State.enabledPending_eq_false {s : State} {c : Nat} (h : ¬ s.ready c) : s.enabledPending.getLsbD c = false :=
  Bool.eq_false_iff.2 (mt (s.enabledPending_iff c).1 h)

theorem State.interruptTaken_of_off {s : State} (h : ¬ (s.priv ≠ .machine ∨ s.mstatus.mie = true)) :
    s.interruptTaken = none := if_neg (mt s.interruptsOn_iff.1 h)

/-- The first source of R649 that is ready is taken. -/
theorem State.interruptTaken_of_first {s : State} (hon : s.priv ≠ .machine ∨ s.mstatus.mie = true) {before after : List Nat}
    {c : Nat} (horder : interruptOrder = before ++ c :: after) (hbefore : ∀ d ∈ before, ¬ s.ready d) (hc : s.ready c) :
    s.interruptTaken = some c := by
  rw [State.interruptTaken, if_pos (s.interruptsOn_iff.2 hon), horder, List.find?_append,
    List.find?_eq_none.2 fun d hd => by rw [State.enabledPending_eq_false (hbefore d hd)]; exact Bool.false_ne_true,
    Option.none_or, List.find?_cons_of_pos ((s.enabledPending_iff c).2 hc)]

/-- None is taken when none is ready. -/
theorem State.interruptTaken_of_none {s : State} (h : ∀ c ∈ interruptOrder, ¬ s.ready c) : s.interruptTaken = none := by
  rw [State.interruptTaken]
  split
  · exact List.find?_eq_none.2 fun c hc => by rw [State.enabledPending_eq_false (h c hc)]; exact Bool.false_ne_true
  · rfl

theorem State.not_ready_of_mip {s : State} (h : s.readMip = 0) (c : Nat) : ¬ s.ready c := by
  rintro ⟨hmip, -⟩
  rw [h] at hmip
  simp at hmip

/-- Settles O9: `find?` over the order of R649 gives the first ready source. -/
theorem interruptsAreTakenInOrder : Obligations.InterruptsAreTakenInOrder := by
  unfold Obligations.InterruptsAreTakenInOrder
  intro s
  refine ⟨fun h1 h2 h3 => ?_, State.interruptTaken_of_off, fun hon h => ?_, fun hon h11 h => ?_, fun hon h11 h3 h => ?_,
    fun hon h11 h3 h7 h => ?_, fun hon h11 h3 h7 h9 h => ?_, fun hon h11 h3 h7 h9 h1 h => ?_,
    fun h11 h3 h7 h9 h1 h5 => ?_, fun c hfull hc => ?_⟩
  · obtain ⟨hmip, hsip⟩ := State.readMip_of_no_irq h1 h2 h3
    exact ⟨hmip, hsip, State.interruptTaken_of_none fun c _ => State.not_ready_of_mip hmip c⟩
  · exact State.interruptTaken_of_first hon (before := []) rfl nofun h
  · refine State.interruptTaken_of_first hon (before := [11]) rfl ?_ h
    simp only [List.forall_mem_cons]
    exact ⟨h11, nofun⟩
  · refine State.interruptTaken_of_first hon (before := [11, 3]) rfl ?_ h
    simp only [List.forall_mem_cons]
    exact ⟨h11, h3, nofun⟩
  · refine State.interruptTaken_of_first hon (before := [11, 3, 7]) rfl ?_ h
    simp only [List.forall_mem_cons]
    exact ⟨h11, h3, h7, nofun⟩
  · refine State.interruptTaken_of_first hon (before := [11, 3, 7, 9]) rfl ?_ h
    simp only [List.forall_mem_cons]
    exact ⟨h11, h3, h7, h9, nofun⟩
  · refine State.interruptTaken_of_first hon (before := [11, 3, 7, 9, 1]) rfl ?_ h
    simp only [List.forall_mem_cons]
    exact ⟨h11, h3, h7, h9, h1, nofun⟩
  · refine State.interruptTaken_of_none ?_
    simp only [interruptOrder, List.forall_mem_cons]
    exact ⟨h11, h3, h7, h9, h1, h5, nofun⟩
  · simp only [step, State.stepWith, hc]
    rw [State.trap_of_full (by rwa [State.sampleLines_cfg])]
    rfl

end Sys2Proof.Machine
end

section
/-!
PROOFS about fences and waits (O33), the CSR instructions (O34, O40), the access rule (O35), and the views of CSRs that
are read back (O36 to O39).
-/
namespace Sys2Proof.Machine

open Sys2Proof

/-! ## Fences and waits (O33) -/

theorem exec_fence (s : State) (p q : BitVec 4) : exec (.fence p q) s = .next (s.passed 4) :=
  State.gate_of_permits (State.permits_of_has rfl rfl rfl rfl) _

theorem exec_fenceI (s : State) : exec .fenceI s = .next ({ s with imem := s.mem }.passed 4) :=
  State.gate_of_permits (State.permits_of_has rfl rfl rfl rfl) _

/-- The gate asks for S-mode, as the legality of sfence.vma does. -/
theorem exec_sfenceVma (s : State) (rs1 rs2 : Reg) :
    exec (.sfenceVma rs1 rs2) s = if s.sfenceLegal then .next (s.passed 4) else s.illegal (.sfenceVma rs1 rs2) := by
  refine State.gate_of_condition (fun h => State.permits_of_has (i := .sfenceVma rs1 rs2) ?_ rfl rfl rfl) _
  rw [State.sfenceLegal, Bool.and_eq_true] at h
  exact h.1

theorem exec_wfi (s : State) : exec .wfi s = if s.wfiLegal then .next (s.passed 4) else s.illegal .wfi :=
  State.gate_of_condition (fun _ => State.permits_of_has rfl rfl rfl rfl) _

theorem State.sfenceLegal_iff (s : State) :
    s.sfenceLegal = true ↔
      s.cfg.hasS = true ∧ (s.priv = .machine ∨ (s.priv = .supervisor ∧ s.mstatus.tvm = false)) := by
  simp [State.sfenceLegal]

theorem State.sfenceLegal_eq_false {s : State}
    (h : s.cfg.hasS = false ∨ s.priv = .user ∨ (s.priv = .supervisor ∧ s.mstatus.tvm = true)) :
    ¬ s.sfenceLegal = true := by
  rw [State.sfenceLegal_iff]
  rintro ⟨hS, hpriv⟩
  rcases h with h | h | ⟨h, htvm⟩
  · rw [hS] at h; cases h
  · simp [h] at hpriv
  · simp [h, htvm] at hpriv

theorem State.wfiLegal_iff (s : State) :
    s.wfiLegal = true ↔
      s.priv = .machine ∨ (s.mstatus.tw = false ∧ (s.priv = .supervisor ∨ s.cfg.hasS = false)) := by
  unfold State.wfiLegal
  cases s.priv <;> simp [and_comm]

theorem State.wfiLegal_eq_false {s : State}
    (h : s.priv ≠ .machine ∧ (s.mstatus.tw = true ∨ (s.priv = .user ∧ s.cfg.hasS = true))) : ¬ s.wfiLegal = true := by
  rw [State.wfiLegal_iff]
  rintro (hM | ⟨htw, hpriv⟩)
  · exact h.1 hM
  · rcases h.2 with ht | ⟨hU, hS⟩
    · rw [htw] at ht; cases ht
    · simp [hU, hS] at hpriv

/-- Settles O33. -/
theorem fencesAndWaitsComplete : Obligations.FencesAndWaitsComplete := by
  unfold Obligations.FencesAndWaitsComplete
  intro s p q rs1 rs2
  refine ⟨exec_fence s p q, exec_fenceI s, fun hS hpriv => ?_, fun h => ?_, fun h => ?_, fun h => ?_⟩
  · rw [exec_sfenceVma, if_pos (s.sfenceLegal_iff.2 ⟨hS, hpriv⟩)]
  · rw [exec_sfenceVma, if_neg (State.sfenceLegal_eq_false h)]
  · rw [exec_wfi, if_pos (s.wfiLegal_iff.2 h)]
  · rw [exec_wfi, if_neg (State.wfiLegal_eq_false h)]

/-! ## The CSR instructions (O34) -/

section

variable (s : State) (rd rs1 : Reg) (n : BitVec 12) (z : BitVec 5)

theorem exec_csrrw : exec (.csrrw rd n rs1) s = s.csrOp (.csrrw rd n rs1) rd n true (fun _ => s.getX rs1) :=
  State.gate_of_permits (State.permits_of_has rfl rfl rfl rfl) _

theorem exec_csrrwi : exec (.csrrwi rd n z) s = s.csrOp (.csrrwi rd n z) rd n true (fun _ => z.setWidth 64) :=
  State.gate_of_permits (State.permits_of_has rfl rfl rfl rfl) _

theorem exec_csrrs :
    exec (.csrrs rd n rs1) s = s.csrOp (.csrrs rd n rs1) rd n (rs1 != 0) (fun t => t ||| s.getX rs1) :=
  State.gate_of_permits (State.permits_of_has rfl rfl rfl rfl) _

theorem exec_csrrc :
    exec (.csrrc rd n rs1) s = s.csrOp (.csrrc rd n rs1) rd n (rs1 != 0) (fun t => t &&& ~~~ s.getX rs1) :=
  State.gate_of_permits (State.permits_of_has rfl rfl rfl rfl) _

theorem exec_csrrsi :
    exec (.csrrsi rd n z) s = s.csrOp (.csrrsi rd n z) rd n (z != 0) (fun t => t ||| z.setWidth 64) :=
  State.gate_of_permits (State.permits_of_has rfl rfl rfl rfl) _

theorem exec_csrrci :
    exec (.csrrci rd n z) s = s.csrOp (.csrrci rd n z) rd n (z != 0) (fun t => t &&& ~~~ z.setWidth 64) :=
  State.gate_of_permits (State.permits_of_has rfl rfl rfl rfl) _

end

theorem setWidth_eq_ofNat (z : BitVec 5) : z.setWidth 64 = BitVec.ofNat 64 z.toNat := by
  rw [← BitVec.toNat_inj, BitVec.toNat_setWidth, BitVec.toNat_ofNat]

/-- Settles O34: `csrOp` on an access that is allowed, and on one that is not. -/
theorem csrInstructionsComplete : Obligations.CsrInstructionsComplete := by
  unfold Obligations.CsrInstructionsComplete
  intro s rd rs1 n z
  have hne : ∀ {w : Nat} {v : BitVec w}, v ≠ 0 → (v != 0) = true := fun h => bne_iff_ne.2 h
  simp only [exec_csrrw, exec_csrrwi, exec_csrrs, exec_csrrc, exec_csrrsi, exec_csrrci, ← setWidth_eq_ofNat]
  refine ⟨fun c hc => ?_, fun c hc => ?_, fun hc => ?_, fun hc => ?_⟩
  · refine ⟨State.csrOp_of_access hc _ _ _, State.csrOp_of_access hc _ _ _, fun h => ?_, fun h => ?_,
      fun h => ⟨?_, ?_⟩⟩
    all_goals rw [hne h]; exact State.csrOp_of_access hc _ _ _
  · exact ⟨State.csrOp_of_access hc _ _ _, State.csrOp_of_access hc _ _ _, State.csrOp_of_access hc _ _ _,
      State.csrOp_of_access hc _ _ _⟩
  · refine ⟨State.csrOp_of_no_access hc _ _ _, State.csrOp_of_no_access hc _ _ _, fun h => ⟨?_, ?_⟩,
      fun h => ⟨?_, ?_⟩⟩
    all_goals rw [hne h]; exact State.csrOp_of_no_access hc _ _ _
  · exact ⟨State.csrOp_of_no_access hc _ _ _, State.csrOp_of_no_access hc _ _ _, State.csrOp_of_no_access hc _ _ _,
      State.csrOp_of_no_access hc _ _ _⟩

/-! ## The access rule (O35) -/

/-- A number names the register that has it. -/
theorem Csr.ofNumber_eq_some_iff (n : BitVec 12) (c : Csr) : Csr.ofNumber n = some c ↔ n = c.number := by
  constructor
  · intro h
    have hfind : Csr.all.find? (fun c => c.number == n) = some c := h
    have hnumber := List.find?_some (p := fun c : Csr => c.number == n) hfind
    exact (beq_iff_eq.1 hnumber).symm
  · rintro rfl
    cases c <;> rfl

theorem State.csrAccess_eq_some_iff (s : State) (n : BitVec 12) (w : Bool) (c : Csr) :
    s.csrAccess n w = some c ↔
      n = c.number ∧ Params.hasCsr s.cfg c = true ∧ s.csrNumberCheck n w = true ∧ s.csrOwnCheck c = true := by
  constructor
  · intro h
    obtain ⟨hn, hrest⟩ := State.csrAccess_some h
    exact ⟨(Csr.ofNumber_eq_some_iff n c).1 hn, hrest⟩
  · rintro ⟨hn, hhas, hnumber, hown⟩
    rw [State.csrAccess, (Csr.ofNumber_eq_some_iff n c).2 hn]
    simp only [hhas, hnumber, hown, Bool.and_self, ↓reduceIte]

/-- The mode and the read-only range that a number encodes (R32). -/
theorem State.csrNumberCheck_iff (s : State) (n : BitVec 12) (w : Bool) :
    s.csrNumberCheck n w = true ↔
      n.toNat / 256 % 4 ≤ Priv.level s.priv ∧ ¬ (w = true ∧ n.toNat / 1024 = 3) := by
  have hmode : (bits n 8 2).toNat = n.toNat / 256 % 4 := by
    rw [bits, BitVec.extractLsb'_toNat, Nat.shiftRight_eq_div_pow]
  have hro : bits n 10 2 = 3#2 ↔ n.toNat / 1024 = 3 := by
    have hlt := n.isLt
    rw [← BitVec.toNat_inj, bits, BitVec.extractLsb'_toNat, Nat.shiftRight_eq_div_pow]
    simp only [BitVec.toNat_ofNat]
    omega
  simp only [State.csrNumberCheck, Bool.and_eq_true, decide_eq_true_eq, hmode, Bool.not_eq_true', Bool.and_eq_false_iff,
    beq_eq_false_iff_ne, ne_eq, hro]
  cases w <;> simp

theorem State.counterOn_iff (s : State) (k : Nat) :
    s.counterOn k = true ↔
      (s.priv ≠ .machine → s.mcounteren.getLsbD k = true) ∧
      (s.priv = .user → s.cfg.hasS = true → s.scounteren.getLsbD k = true) := by
  unfold State.counterOn
  cases s.priv <;> cases s.cfg.hasS <;> simp

/-- The conditions of O35 that are a register's own. -/
def State.OwnRule (s : State) (c : Csr) : Prop :=
  (c ∈ [Csr.fflags, Csr.frm, Csr.fcsr] → s.mstatus.fs ≠ 0) ∧
  (c = .satp → ¬ (s.priv = .supervisor ∧ s.mstatus.tvm = true)) ∧
  (∀ k, (c, k) ∈ [(Csr.cycle, 0), (Csr.cycleh, 0), (Csr.time, 1), (Csr.timeh, 1), (Csr.instret, 2),
      (Csr.instreth, 2)] →
    (s.priv ≠ .machine → s.mcounteren.getLsbD k = true) ∧
    (s.priv = .user → s.cfg.hasS = true → s.scounteren.getLsbD k = true))

/-- A register that exists has its own condition; the floating-point ones exist with F. -/
theorem State.csrOwnCheck_iff {s : State} {c : Csr} (hhas : Params.hasCsr s.cfg c = true) :
    s.csrOwnCheck c = true ↔ s.OwnRule c := by
  have hcounter := s.counterOn_iff
  cases c
  case fflags | frm | fcsr =>
    have hF : s.cfg.extF = true := hhas
    simp [State.csrOwnCheck, State.OwnRule, State.fpOn, hF]
  case satp => simp [State.csrOwnCheck, State.OwnRule, imp_iff_not_or]
  case cycle | cycleh | time | timeh | instret | instreth =>
    simp only [State.csrOwnCheck, State.OwnRule, hcounter]
    simp
  all_goals simp [State.csrOwnCheck, State.OwnRule]

/-- Settles O35. -/
theorem csrAccessRule : Obligations.CsrAccessRule := by
  unfold Obligations.CsrAccessRule
  intro s n w c
  rw [State.csrAccess_eq_some_iff, State.csrNumberCheck_iff]
  constructor
  · rintro ⟨hn, hhas, ⟨hmode, hro⟩, hown⟩
    exact ⟨hn, hhas, hmode, hro, (State.csrOwnCheck_iff hhas).1 hown⟩
  · rintro ⟨hn, hhas, hmode, hro, hown⟩
    exact ⟨hn, hhas, ⟨hmode, hro⟩, (State.csrOwnCheck_iff hhas).2 hown⟩

end Sys2Proof.Machine
end

section
/-!
PROOFS about the CSRs: the frame of a CSR instruction (O40), fcsr (O38), the counters (O39).
-/
namespace Sys2Proof.Machine

open Sys2Proof

/-! ## What one CSR write leaves (O40) -/

section

variable (s : State) (c : Csr) (v : Word)

theorem State.csrWrite_fflags (h : c ∉ [Csr.fflags, .fcsr]) : (s.csrWrite c v).fflags = s.fflags := by
  cases c
  case fflags | fcsr => simp at h
  all_goals rfl

theorem State.csrWrite_frm (h : c ∉ [Csr.frm, .fcsr]) : (s.csrWrite c v).frm = s.frm := by
  cases c
  case frm | fcsr => simp at h
  all_goals rfl

theorem State.csrWrite_mstatus (h : c ∉ [Csr.fflags, .frm, .fcsr, .mstatus, .sstatus]) :
    (s.csrWrite c v).mstatus = s.mstatus := by
  cases c
  case fflags | frm | fcsr | mstatus | sstatus => simp at h
  all_goals rfl

theorem State.csrWrite_mie (h : c ∉ [Csr.mie, .sie]) : (s.csrWrite c v).mie = s.mie := by
  cases c
  case mie | sie => simp at h
  all_goals rfl

theorem State.csrWrite_mip (h : c ∉ [Csr.mip, .sip]) : (s.csrWrite c v).mip = s.mip := by
  cases c
  case mip | sip => simp at h
  all_goals rfl

theorem State.csrWrite_mcycle (h : c ∉ [Csr.mcycle, .mcycleh]) : (s.csrWrite c v).mcycle = s.mcycle := by
  cases c
  case mcycle | mcycleh => simp at h
  all_goals rfl

theorem State.csrWrite_minstret (h : c ∉ [Csr.minstret, .minstreth]) : (s.csrWrite c v).minstret = s.minstret := by
  cases c
  case minstret | minstreth => simp at h
  all_goals rfl

theorem State.csrWrite_mepc (h : c ≠ .mepc) : (s.csrWrite c v).mepc = s.mepc := by
  cases c
  case mepc => exact absurd rfl h
  all_goals rfl

theorem State.csrWrite_sepc (h : c ≠ .sepc) : (s.csrWrite c v).sepc = s.sepc := by
  cases c
  case sepc => exact absurd rfl h
  all_goals rfl

theorem State.csrWrite_mcause (h : c ≠ .mcause) : (s.csrWrite c v).mcause = s.mcause := by
  cases c
  case mcause => exact absurd rfl h
  all_goals rfl

theorem State.csrWrite_mtval (h : c ≠ .mtval) : (s.csrWrite c v).mtval = s.mtval := by
  cases c
  case mtval => exact absurd rfl h
  all_goals rfl

theorem State.csrWrite_mscratch (h : c ≠ .mscratch) : (s.csrWrite c v).mscratch = s.mscratch := by
  cases c
  case mscratch => exact absurd rfl h
  all_goals rfl

theorem State.csrWrite_mtvec (h : c ≠ .mtvec) : (s.csrWrite c v).mtvec = s.mtvec := by
  cases c
  case mtvec => exact absurd rfl h
  all_goals rfl

theorem State.csrWrite_scause (h : c ≠ .scause) : (s.csrWrite c v).scause = s.scause := by
  cases c
  case scause => exact absurd rfl h
  all_goals rfl

theorem State.csrWrite_stval (h : c ≠ .stval) : (s.csrWrite c v).stval = s.stval := by
  cases c
  case stval => exact absurd rfl h
  all_goals rfl

theorem State.csrWrite_sscratch (h : c ≠ .sscratch) : (s.csrWrite c v).sscratch = s.sscratch := by
  cases c
  case sscratch => exact absurd rfl h
  all_goals rfl

theorem State.csrWrite_stvec (h : c ≠ .stvec) : (s.csrWrite c v).stvec = s.stvec := by
  cases c
  case stvec => exact absurd rfl h
  all_goals rfl

theorem State.csrWrite_mcounteren (h : c ≠ .mcounteren) : (s.csrWrite c v).mcounteren = s.mcounteren := by
  cases c
  case mcounteren => exact absurd rfl h
  all_goals rfl

theorem State.csrWrite_scounteren (h : c ≠ .scounteren) : (s.csrWrite c v).scounteren = s.scounteren := by
  cases c
  case scounteren => exact absurd rfl h
  all_goals rfl

end

/-- The state a CSR instruction leaves, field by field: what its write left, and the frame of x[rd], pc and the count. -/
theorem State.csrDone_fields (s : State) (c : Csr) (rd : Reg) (w : Option Word) :
    s.csrDone c rd w =
      { s.csrWritten c w with
        x := ((s.csrWritten c w).setX rd (s.csrRead c)).x
        pc := s.norm (s.pc + 4)
        minstret := (s.csrDone c rd w).minstret } := by
  obtain ⟨m, hm⟩ := s.csrDone_eq_retire c rd w
  obtain ⟨hcfg, -, -, hpc, -⟩ := s.csrWritten_frame c w
  rw [hm, State.setX_unchanged]
  simp only [State.advance, State.retire, State.norm, hcfg, hpc]

theorem State.csrDone_minstret {s : State} {c : Csr} (h : c ∉ [Csr.minstret, .minstreth]) (rd : Reg)
    (w : Option Word) : (s.csrDone c rd w).minstret = s.minstret + 1 := by
  have hc : c.isInstret = false := by
    cases c
    case minstret | minstreth => simp at h
    all_goals rfl
  rw [State.csrDone_eq, hc, Bool.and_false, if_neg Bool.false_ne_true]
  cases w with
  | none => simp [State.csrWritten]
  | some v => simp [State.csrWritten, State.csrWrite_minstret s c v h]

theorem State.getX_congr {s u : State} (hcfg : u.cfg = s.cfg) (hx : u.x = s.x) (r : Reg) : u.getX r = s.getX r := by
  simp only [State.getX, State.norm, hcfg, hx]

/-- The x registers after a write depend on the registers before it and on XLEN only. -/
theorem State.setX_x_congr {s u : State} (hcfg : u.cfg = s.cfg) (hx : u.x = s.x) (rd : Reg) (v : Word) :
    (u.setX rd v).x = (s.setX rd v).x := by
  simp only [State.setX, State.norm, hcfg]
  split
  · exact hx
  · simp only [hx]

/-- What a CSR instruction leaves in the fields of CSRs that are not the one it writes. -/
theorem State.csrWritten_other (s : State) (c : Csr) (w : Option Word) :
    (c ∉ [Csr.fflags, .fcsr] → (s.csrWritten c w).fflags = s.fflags) ∧
    (c ∉ [Csr.frm, .fcsr] → (s.csrWritten c w).frm = s.frm) ∧
    (c ∉ [Csr.fflags, .frm, .fcsr, .mstatus, .sstatus] → (s.csrWritten c w).mstatus = s.mstatus) ∧
    (c ≠ .mepc → (s.csrWritten c w).mepc = s.mepc) ∧
    (c ≠ .sepc → (s.csrWritten c w).sepc = s.sepc) ∧
    (c ≠ .mcause → (s.csrWritten c w).mcause = s.mcause) ∧
    (c ≠ .mtval → (s.csrWritten c w).mtval = s.mtval) ∧
    (c ≠ .mscratch → (s.csrWritten c w).mscratch = s.mscratch) ∧
    (c ≠ .mtvec → (s.csrWritten c w).mtvec = s.mtvec) ∧
    (c ≠ .scause → (s.csrWritten c w).scause = s.scause) ∧
    (c ≠ .stval → (s.csrWritten c w).stval = s.stval) ∧
    (c ≠ .sscratch → (s.csrWritten c w).sscratch = s.sscratch) ∧
    (c ≠ .stvec → (s.csrWritten c w).stvec = s.stvec) ∧
    (c ∉ [Csr.mie, .sie] → (s.csrWritten c w).mie = s.mie) ∧
    (c ∉ [Csr.mip, .sip] → (s.csrWritten c w).mip = s.mip) ∧
    (c ≠ .mcounteren → (s.csrWritten c w).mcounteren = s.mcounteren) ∧
    (c ≠ .scounteren → (s.csrWritten c w).scounteren = s.scounteren) ∧
    (c ∉ [Csr.mcycle, .mcycleh] → (s.csrWritten c w).mcycle = s.mcycle) := by
  cases w with
  | none => simp [State.csrWritten]
  | some v =>
    exact ⟨s.csrWrite_fflags c v, s.csrWrite_frm c v, s.csrWrite_mstatus c v, s.csrWrite_mepc c v, s.csrWrite_sepc c v,
      s.csrWrite_mcause c v, s.csrWrite_mtval c v, s.csrWrite_mscratch c v, s.csrWrite_mtvec c v, s.csrWrite_scause c v,
      s.csrWrite_stval c v, s.csrWrite_sscratch c v, s.csrWrite_stvec c v, s.csrWrite_mie c v, s.csrWrite_mip c v,
      s.csrWrite_mcounteren c v, s.csrWrite_scounteren c v, s.csrWrite_mcycle c v⟩

/-- Settles O40: what the write leaves, and what x[rd], pc and the count leave. -/
theorem csrInstructionFrame : Obligations.CsrInstructionFrame := by
  unfold Obligations.CsrInstructionFrame
  intro s c rd w
  obtain ⟨hcfg, hx, hf, -, hpriv, hlines, hmtime, hres, hmem, himem, hdraw⟩ := s.csrWritten_frame c w
  have hfields := s.csrDone_fields c rd w
  have hcfg' : (s.csrDone c rd w).cfg = s.cfg := by rw [hfields]; exact hcfg
  have hmem' : (s.csrDone c rd w).mem = s.mem := by rw [hfields]; exact hmem
  have hgetX : ∀ r, (s.csrDone c rd w).getX r = (s.setX rd (s.csrRead c)).getX r := by
    refine State.getX_congr (hcfg'.trans (State.setX_cfg s rd _).symm) ?_
    rw [hfields]
    exact State.setX_x_congr hcfg hx rd _
  refine ⟨fun r hr => ?_, ?_, hcfg', ?_, ?_, ?_, hmem', ?_, State.byte_congr hcfg' hmem', ?_, ?_, ?_, ?_, fun hw => ?_, ?_⟩
  · rw [hgetX, State.getX_setX_other s hr]
  · rw [hgetX, State.getX_setX_same]
  · rw [hfields]; exact hf
  · rw [hfields]; exact hpriv
  · rw [hfields]; exact hres
  · rw [hfields]; exact himem
  · rw [hfields]
  · rw [hfields]; exact hlines
  · rw [hfields]; exact hmtime
  · rw [hfields]; exact hdraw
  · subst hw; rfl
  · have hcount := State.csrDone_minstret (s := s) (c := c) (rd := rd) (w := w)
    obtain ⟨h1, h2, h3, h4, h5, h6, h7, h8, h9, h10, h11, h12, h13, h14, h15, h16, h17, h18⟩ := s.csrWritten_other c w
    refine ⟨?_, ?_, ?_, ?_, ?_, ?_, ?_, ?_, ?_, ?_, ?_, ?_, ?_, ?_, ?_, ?_, ?_, ?_, hcount⟩
    all_goals rw [hfields]; assumption

/-! ## fcsr (O38) -/

theorem bits_toNat {n : Nat} (v : BitVec n) (lo w : Nat) : (bits v lo w).toNat = v.toNat / 2 ^ lo % 2 ^ w := by
  rw [bits, BitVec.extractLsb'_toNat, Nat.shiftRight_eq_div_pow]

/-- fcsr is frm above fflags (R30). -/
theorem State.csrRead_fcsr_toNat (s : State) : (s.csrRead .fcsr).toNat = s.frm.toNat * 32 + s.fflags.toNat := by
  have h1 := s.frm.isLt
  have h2 := s.fflags.isLt
  change ((s.frm ++ s.fflags).setWidth 64).toNat = _
  rw [BitVec.toNat_setWidth, BitVec.toNat_append, ← Nat.shiftLeft_add_eq_or_of_lt h2, Nat.shiftLeft_eq]
  omega

theorem State.csrRead_fflags_toNat (s : State) : (s.csrRead .fflags).toNat = s.fflags.toNat :=
  BitVec.toNat_setWidth_of_le (by decide)

theorem State.csrRead_frm_toNat (s : State) : (s.csrRead .frm).toNat = s.frm.toNat :=
  BitVec.toNat_setWidth_of_le (by decide)

/-- Settles O38: the two fields as numbers. -/
theorem floatControlViews : Obligations.FloatControlViews := by
  unfold Obligations.FloatControlViews
  intro s v
  refine ⟨?_, ?_, ?_, rfl, ?_, rfl, fun c hc => ?_⟩
  · rw [State.csrRead_fcsr_toNat, State.csrRead_frm_toNat, State.csrRead_fflags_toNat]
  · rw [State.csrRead_fcsr_toNat]
    change (bits v 5 3).toNat * 32 + (bits v 0 5).toNat = _
    rw [bits_toNat, bits_toNat]
    omega
  · rw [State.csrRead_fflags_toNat]
    change (bits v 0 5).toNat = _
    rw [bits_toNat, Nat.pow_zero, Nat.div_one]
    rfl
  · rw [State.csrRead_frm_toNat]
    change (bits v 0 3).toNat = _
    rw [bits_toNat, Nat.pow_zero, Nat.div_one]
    rfl
  · simp only [List.mem_cons, List.not_mem_nil, or_false] at hc
    rcases hc with rfl | rfl | rfl <;> rfl

/-! ## Counters (O39) -/

theorem upperHalf_toNat (c : BitVec 64) : (upperHalf c).toNat = c.toNat / 2 ^ 32 := by
  have hc := c.isLt
  rw [upperHalf, BitVec.toNat_setWidth, bits_toNat]
  omega

/-- Two halves side by side. -/
theorem append_toNat_32 (a b : BitVec 32) : (a ++ b).toNat = a.toNat * 2 ^ 32 + b.toNat := by
  rw [BitVec.toNat_append, ← Nat.shiftLeft_add_eq_or_of_lt b.isLt, Nat.shiftLeft_eq]

theorem writeCounterHigh_toNat (c v : BitVec 64) :
    (writeCounterHigh c v).toNat = v.toNat % 2 ^ 32 * 2 ^ 32 + c.toNat % 2 ^ 32 := by
  rw [writeCounterHigh]
  exact (append_toNat_32 _ _).trans (by rw [bits_toNat, bits_toNat, Nat.pow_zero, Nat.div_one, Nat.div_one])

theorem State.writeCounter_rv64 {s : State} (h : s.cfg.xlen = .rv64) (c v : BitVec 64) : s.writeCounter c v = v := by
  simp only [State.writeCounter, h]

theorem State.writeCounter_toNat_rv32 {s : State} (h : s.cfg.xlen = .rv32) (c v : BitVec 64) :
    (s.writeCounter c v).toNat = c.toNat / 2 ^ 32 * 2 ^ 32 + v.toNat % 2 ^ 32 := by
  have hc := c.isLt
  simp only [State.writeCounter, h]
  refine (append_toNat_32 _ _).trans ?_
  rw [bits_toNat, bits_toNat, Nat.pow_zero, Nat.div_one, Nat.mod_eq_of_lt (show c.toNat / 2 ^ 32 < 2 ^ 32 by omega)]

theorem counteren_toNat (v : Word) : (((bits v 0 3).setWidth 64 : Word)).toNat = v.toNat % 8 := by
  rw [BitVec.toNat_setWidth_of_le (by decide), bits_toNat, Nat.pow_zero, Nat.div_one]
  rfl

/-- Settles O39: the counters and their halves as numbers. -/
theorem countersReadBack : Obligations.CountersReadBack := by
  unfold Obligations.CountersReadBack
  intro s v rd
  refine ⟨rfl, rfl, rfl, rfl, s.norm_toNat _, s.norm_toNat _, upperHalf_toNat _, upperHalf_toNat _, s.norm_toNat _,
    upperHalf_toNat _, fun h => ⟨s.writeCounter_rv64 h _ _, s.writeCounter_rv64 h _ _⟩,
    fun h => ⟨s.writeCounter_toNat_rv32 h _ _, s.writeCounter_toNat_rv32 h _ _⟩, writeCounterHigh_toNat _ _,
    writeCounterHigh_toNat _ _, fun c hc => ?_, ?_, State.csrDone_minstret (by decide) rd _⟩
  · simp only [List.mem_cons, List.not_mem_nil, or_false] at hc
    rcases hc with rfl | rfl
    · exact counteren_toNat v
    · exact counteren_toNat v
  · rw [State.csrDone_eq]
    exact State.setX_minstret _ _ _

end Sys2Proof.Machine
end

section
/-!
PROOFS about what the CSRs read after a write, bit by bit: the trap and interrupt registers (O36), mstatus (O37).
-/
namespace Sys2Proof.Machine

open Sys2Proof

/-! ## Words of interrupt bits (O36) -/

/-- The bits that mip and mie may have: the codes of R649. -/
def InterruptBits (v : Word) : Prop := ∀ k < 64, k ∉ [1, 3, 5, 7, 9, 11] → v.getLsbD k = false

/-- Such words are equal when they agree in the six bits. -/
theorem InterruptBits.ext {v w : Word} (hv : InterruptBits v) (hw : InterruptBits w)
    (h : ∀ k ∈ [1, 3, 5, 7, 9, 11], v.getLsbD k = w.getLsbD k) : v = w := by
  apply BitVec.eq_of_getLsbD_eq
  intro k hk
  by_cases hmem : k ∈ [1, 3, 5, 7, 9, 11]
  · exact h k hmem
  · rw [hv k hk hmem, hw k hk hmem]

theorem InterruptBits.or {v w : Word} (hv : InterruptBits v) (hw : InterruptBits w) : InterruptBits (v ||| w) := by
  intro k hk hmem
  rw [BitVec.getLsbD_or, hv k hk hmem, hw k hk hmem, Bool.or_self]

theorem InterruptBits.and_left {v : Word} (hv : InterruptBits v) (w : Word) : InterruptBits (v &&& w) := by
  intro k hk hmem
  rw [BitVec.getLsbD_and, hv k hk hmem, Bool.false_and]

theorem InterruptBits.and_right {w : Word} (hw : InterruptBits w) (v : Word) : InterruptBits (v &&& w) := by
  rw [BitVec.and_comm]
  exact hw.and_left v

theorem InterruptBits.bitAt (b : Bool) {k : Nat} (hk : k ∈ [1, 3, 5, 7, 9, 11]) : InterruptBits (bitAt b k) := by
  intro j _ hj
  have hne : j ≠ k := fun h => hj (h ▸ hk)
  simp [bitAt_getLsbD, hne]

theorem interruptBits_of_mask {m : Word} (h : m ∈ [0xAAA#64, 0x888#64, 0x222#64, 2#64, 0#64]) : InterruptBits m := by
  simp only [List.mem_cons, List.not_mem_nil, or_false] at h
  unfold InterruptBits
  rcases h with rfl | rfl | rfl | rfl | rfl
  all_goals decide

section

variable (s : State) (v : Word)

theorem State.readSie_interruptBits : InterruptBits s.readSie :=
  ((InterruptBits.bitAt _ (by decide)).or (.bitAt _ (by decide))).or (.bitAt _ (by decide))

theorem State.readMie_interruptBits : InterruptBits s.readMie :=
  ((s.readSie_interruptBits.or (.bitAt _ (by decide))).or (.bitAt _ (by decide))).or (.bitAt _ (by decide))

theorem State.readSip_interruptBits : InterruptBits s.readSip :=
  ((InterruptBits.bitAt _ (by decide)).or (.bitAt _ (by decide))).or (.bitAt _ (by decide))

theorem State.readMip_interruptBits : InterruptBits s.readMip :=
  ((s.readSip_interruptBits.or (.bitAt _ (by decide))).or (.bitAt _ (by decide))).or (.bitAt _ (by decide))

/-- Software bits exist with S when IRQ is not empty. -/
theorem Params.hasSoftPending_eq (p : Params) :
    Params.hasSoftPending p = (p.hasS && (p.irqMSI || p.irqMTI || p.irqMEI)) := rfl

/-- The six bits of a view, in terms of its fields. -/
theorem State.readMie_bits :
    s.readMie.getLsbD 1 = (s.cfg.hasS && s.mie.ssi) ∧ s.readMie.getLsbD 3 = s.mie.msi ∧
    s.readMie.getLsbD 5 = (s.cfg.hasS && s.mie.sti) ∧ s.readMie.getLsbD 7 = s.mie.mti ∧
    s.readMie.getLsbD 9 = (s.cfg.hasS && s.mie.sei) ∧ s.readMie.getLsbD 11 = s.mie.mei := by
  simp only [State.readMie, State.readSie, BitVec.getLsbD_or, bitAt_getLsbD]
  simp

theorem State.readSie_bits :
    s.readSie.getLsbD 1 = (s.cfg.hasS && s.mie.ssi) ∧ s.readSie.getLsbD 3 = false ∧
    s.readSie.getLsbD 5 = (s.cfg.hasS && s.mie.sti) ∧ s.readSie.getLsbD 7 = false ∧
    s.readSie.getLsbD 9 = (s.cfg.hasS && s.mie.sei) ∧ s.readSie.getLsbD 11 = false := by
  simp only [State.readSie, BitVec.getLsbD_or, bitAt_getLsbD]
  simp

theorem State.readMip_bits :
    s.readMip.getLsbD 1 = (Params.hasSoftPending s.cfg && s.mip.ssip) ∧
    s.readMip.getLsbD 3 = (s.cfg.irqMSI && s.lines.msi) ∧
    s.readMip.getLsbD 5 = (Params.hasSoftPending s.cfg && s.mip.stip) ∧
    s.readMip.getLsbD 7 = (s.cfg.irqMTI && s.lines.mti) ∧
    s.readMip.getLsbD 9 = (Params.hasSoftPending s.cfg && s.mip.seip) ∧
    s.readMip.getLsbD 11 = (s.cfg.irqMEI && s.lines.mei) := by
  simp only [State.readMip, State.readSip, BitVec.getLsbD_or, bitAt_getLsbD]
  simp

theorem State.readSip_bits :
    s.readSip.getLsbD 1 = (Params.hasSoftPending s.cfg && s.mip.ssip) ∧ s.readSip.getLsbD 3 = false ∧
    s.readSip.getLsbD 5 = (Params.hasSoftPending s.cfg && s.mip.stip) ∧ s.readSip.getLsbD 7 = false ∧
    s.readSip.getLsbD 9 = (Params.hasSoftPending s.cfg && s.mip.seip) ∧ s.readSip.getLsbD 11 = false := by
  simp only [State.readSip, BitVec.getLsbD_or, bitAt_getLsbD]
  simp

/-- mie after a write: the supervisor's bits exist with S (R38). -/
theorem State.readMie_after_mie :
    (s.csrWrite .mie v).readMie = v &&& (if s.cfg.hasS then 0xAAA#64 else 0x888#64) := by
  refine (State.readMie_interruptBits _).ext ((interruptBits_of_mask ?_).and_right v) ?_
  · split <;> decide
  · obtain ⟨h1, h3, h5, h7, h9, h11⟩ := (s.csrWrite .mie v).readMie_bits
    simp only [List.forall_mem_cons, BitVec.getLsbD_and, h1, h3, h5, h7, h9, h11]
    cases hS : s.cfg.hasS <;> simp [State.csrWrite, State.writeMie, State.writeSie, hS]

/-- A write to sie changes the supervisor's bits of mie (R39). -/
theorem State.readMie_after_sie :
    (s.csrWrite .sie v).readMie =
      if s.cfg.hasS then (s.readMie &&& ~~~ 0x222#64) ||| (v &&& 0x222#64) else s.readMie := by
  obtain ⟨h1, h3, h5, h7, h9, h11⟩ := (s.csrWrite .sie v).readMie_bits
  obtain ⟨g1, g3, g5, g7, g9, g11⟩ := s.readMie_bits
  cases hS : s.cfg.hasS
  · refine (State.readMie_interruptBits _).ext s.readMie_interruptBits ?_
    simp only [Bool.false_eq_true, ↓reduceIte, List.forall_mem_cons, h1, h3, h5, h7, h9, h11, g1, g3, g5, g7, g9, g11]
    simp [State.csrWrite, State.writeSie, hS]
  · refine (State.readMie_interruptBits _).ext
      ((s.readMie_interruptBits.and_left _).or ((interruptBits_of_mask (by decide)).and_right v)) ?_
    simp only [↓reduceIte, List.forall_mem_cons, BitVec.getLsbD_or, BitVec.getLsbD_and, h1, h3, h5, h7, h9, h11, g1,
      g3, g5, g7, g9, g11]
    simp [State.csrWrite, State.writeSie, hS]

/-- sie is the supervisor's bits of mie. -/
theorem State.readSie_eq : s.readSie = s.readMie &&& 0x222#64 := by
  obtain ⟨h1, h3, h5, h7, h9, h11⟩ := s.readSie_bits
  obtain ⟨g1, g3, g5, g7, g9, g11⟩ := s.readMie_bits
  refine s.readSie_interruptBits.ext (s.readMie_interruptBits.and_left _) ?_
  simp only [List.forall_mem_cons, BitVec.getLsbD_and, h1, h3, h5, h7, h9, h11, g1, g3, g5, g7, g9, g11]
  simp

theorem State.readSip_eq : s.readSip = s.readMip &&& 0x222#64 := by
  obtain ⟨h1, h3, h5, h7, h9, h11⟩ := s.readSip_bits
  obtain ⟨g1, g3, g5, g7, g9, g11⟩ := s.readMip_bits
  refine s.readSip_interruptBits.ext (s.readMip_interruptBits.and_left _) ?_
  simp only [List.forall_mem_cons, BitVec.getLsbD_and, h1, h3, h5, h7, h9, h11, g1, g3, g5, g7, g9, g11]
  simp

/-- mip after a write: the lines as they are, the software bits as written where they exist (R38, R42). -/
theorem State.readMip_after_mip :
    (s.csrWrite .mip v).readMip =
      (s.readMip &&& 0x888#64) ||| (v &&& (if Params.hasSoftPending s.cfg then 0x222#64 else 0#64)) := by
  obtain ⟨h1, h3, h5, h7, h9, h11⟩ := (s.csrWrite .mip v).readMip_bits
  obtain ⟨g1, g3, g5, g7, g9, g11⟩ := s.readMip_bits
  refine (State.readMip_interruptBits _).ext
    ((s.readMip_interruptBits.and_left _).or ((interruptBits_of_mask ?_).and_right v)) ?_
  · split <;> decide
  · simp only [List.forall_mem_cons, BitVec.getLsbD_or, BitVec.getLsbD_and, h1, h3, h5, h7, h9, h11, g1, g3, g5, g7, g9,
      g11]
    cases hsoft : Params.hasSoftPending s.cfg <;> simp [State.csrWrite, State.writeMip, State.writeSip, hsoft]

/-- A write to sip changes SSIP (R39). -/
theorem State.readMip_after_sip :
    (s.csrWrite .sip v).readMip =
      if Params.hasSoftPending s.cfg then (s.readMip &&& ~~~ 2#64) ||| (v &&& 2#64) else s.readMip := by
  obtain ⟨h1, h3, h5, h7, h9, h11⟩ := (s.csrWrite .sip v).readMip_bits
  obtain ⟨g1, g3, g5, g7, g9, g11⟩ := s.readMip_bits
  cases hsoft : Params.hasSoftPending s.cfg
  · refine (State.readMip_interruptBits _).ext s.readMip_interruptBits ?_
    simp only [Bool.false_eq_true, ↓reduceIte, List.forall_mem_cons, h1, h3, h5, h7, h9, h11, g1, g3, g5, g7, g9, g11]
    simp [State.csrWrite, State.writeSip, hsoft]
  · refine (State.readMip_interruptBits _).ext
      ((s.readMip_interruptBits.and_left _).or ((interruptBits_of_mask (by decide)).and_right v)) ?_
    simp only [↓reduceIte, List.forall_mem_cons, BitVec.getLsbD_or, BitVec.getLsbD_and, h1, h3, h5, h7, h9, h11, g1,
      g3, g5, g7, g9, g11]
    simp [State.csrWrite, State.writeSip, hsoft]

/-- misa as a number: distinct bits add (R38). -/
theorem misa_toNat (x : Xlen) (a c d f m hs hu : Bool) :
    ((match x with | .rv32 => 1#64 <<< 30 | .rv64 => 2#64 <<< 62) |||
      bitAt a 0 ||| bitAt c 2 ||| bitAt d 3 ||| bitAt f 5 ||| bitAt true 8 |||
      bitAt m 12 ||| bitAt hs 18 ||| bitAt hu 20).toNat =
      (match x with | .rv32 => 2 ^ 30 | .rv64 => 2 ^ 63) +
        (if a then 2 ^ 0 else 0) + (if c then 2 ^ 2 else 0) + (if d then 2 ^ 3 else 0) + (if f then 2 ^ 5 else 0) +
        (if true then 2 ^ 8 else 0) + (if m then 2 ^ 12 else 0) + (if hs then 2 ^ 18 else 0) +
        (if hu then 2 ^ 20 else 0) := by
  cases x <;> revert a c d f m hs hu <;> decide

/-- Settles O36. -/
theorem trapRegistersReadBack : Obligations.TrapRegistersReadBack := by
  unfold Obligations.TrapRegistersReadBack
  intro s v
  have htvec : ∀ old, s.norm (s.writeTvec old v) = s.writeTvec old v := fun _ => s.norm_norm _
  refine ⟨fun c hc => ?_, fun c hc => ?_, fun h => ?_, fun h => ?_, s.readMie_after_mie v, s.readMie_after_sie v,
    ?_, s.readSie_eq, s.readSip_eq, ⟨s.readMip_after_mip v, s.readMip_after_sip v⟩, fun h1 h2 h3 => ?_, fun c hc => ?_,
    fun c hc => ?_, s.norm_toNat _, misa_toNat _ _ _ _ _ _ _ _⟩
  · simp only [List.mem_cons, List.not_mem_nil, or_false] at hc
    rcases hc with rfl | rfl | rfl | rfl | rfl | rfl
    all_goals exact s.norm_norm v
  · simp only [List.mem_cons, List.not_mem_nil, or_false] at hc
    rcases hc with rfl | rfl
    all_goals exact s.epcOf_epcOf v
  · have hold : ∀ old, s.writeTvec old v = s.norm v := fun old => by rw [State.writeTvec, h]; rfl
    exact ⟨(htvec _).trans (hold _), (htvec _).trans (hold _)⟩
  · have hold : ∀ old, s.writeTvec old v = s.norm ((v &&& ~~~ 3#64) ||| (old &&& 3#64)) := fun old => by
      rw [State.writeTvec, h, if_pos rfl]
    exact ⟨(htvec _).trans (hold _), (htvec _).trans (hold _)⟩
  · obtain ⟨-, h3, -, h7, -, h11⟩ := s.readMip_bits
    exact ⟨h3, h7, h11⟩
  · obtain ⟨hmip, hsip⟩ := State.readMip_of_no_irq h1 h2 h3
    refine ⟨hmip, hsip, fun c => ?_⟩
    obtain ⟨hcfg, -⟩ := s.csrWrite_frame c v
    exact (State.readMip_of_no_irq (by rwa [hcfg]) (by rwa [hcfg]) (by rwa [hcfg])).1
  · simp only [List.mem_cons, List.not_mem_nil, or_false] at hc
    rcases hc with rfl | rfl | rfl | rfl | rfl | rfl | rfl | rfl
    all_goals rfl
  · simp only [List.mem_cons, List.not_mem_nil, or_false] at hc
    rcases hc with rfl | rfl | rfl | rfl | rfl | rfl
    all_goals rfl

/-! ## mstatus, bit by bit (O37) -/

theorem bitAt_getLsbD_of_lt (b : Bool) {k : Nat} (hk : k < 64) (j : Nat) :
    (bitAt b k).getLsbD j = (b && decide (j = k)) := by
  rw [bitAt_getLsbD]
  by_cases hj : j = k
  · simp [hj, hk]
  · simp [hj]

theorem level_shift_getLsbD (p : Priv) (k : Nat) :
    ((BitVec.ofNat 64 (Priv.level p)) <<< 11).getLsbD k =
      ((decide (k = 11) && (Priv.level p).testBit 0) || (decide (k = 12) && (Priv.level p).testBit 1)) := by
  rcases Nat.lt_or_ge k 64 with hk | hk
  · revert k
    cases p <;> decide
  · have h11 : k ≠ 11 := by omega
    have h12 : k ≠ 12 := by omega
    simp [BitVec.getLsbD_of_ge _ k hk, h11, h12]

theorem fs_shift_getLsbD (f : BitVec 2) (k : Nat) :
    (f.setWidth 64 <<< 13).getLsbD k =
      ((decide (k = 13) && f.getLsbD 0) || (decide (k = 14) && f.getLsbD 1)) := by
  rcases Nat.lt_or_ge k 64 with hk | hk
  · revert f k
    decide
  · have h13 : k ≠ 13 := by omega
    have h14 : k ≠ 14 := by omega
    simp [BitVec.getLsbD_of_ge _ k hk, h13, h14]

theorem fs_dirty_iff (f : BitVec 2) : (f == 3) = (f.getLsbD 0 && f.getLsbD 1) := by
  revert f
  decide

/-- The bits mstatus and sstatus share, at every position. -/
theorem State.sharedStatus_getLsbD (k : Nat) :
    s.sharedStatus.getLsbD k =
      ((s.cfg.hasS && s.mstatus.sie && decide (k = 1)) || (s.cfg.hasS && s.mstatus.spie && decide (k = 5)) ||
        (s.cfg.hasS && s.mstatus.spp && decide (k = 8)) ||
        ((decide (k = 13) && s.fsField.getLsbD 0) || (decide (k = 14) && s.fsField.getLsbD 1)) ||
        (s.fsField.getLsbD 0 && s.fsField.getLsbD 1 && decide (k = s.cfg.xlen.bits - 1))) := by
  have hw : s.cfg.xlen.bits - 1 < 64 := by cases s.cfg.xlen <;> decide
  simp (disch := omega) only [State.sharedStatus, BitVec.getLsbD_or, bitAt_getLsbD_of_lt, fs_shift_getLsbD,
    fs_dirty_iff]

/-- mstatus at every position: the shared bits, the modes' widths, and the machine's own fields (R34). -/
theorem State.readMstatus_getLsbD (k : Nat) :
    s.readMstatus.getLsbD k =
      (s.sharedStatus.getLsbD k || (s.cfg.xlen == .rv64 && s.cfg.hasU && decide (k = 33)) ||
        (s.cfg.xlen == .rv64 && s.cfg.hasS && decide (k = 35)) || (s.mstatus.mie && decide (k = 3)) ||
        (s.mstatus.mpie && decide (k = 7)) ||
        ((decide (k = 11) && (Priv.level s.mstatus.mpp).testBit 0) ||
          (decide (k = 12) && (Priv.level s.mstatus.mpp).testBit 1)) ||
        (s.cfg.hasS && s.mstatus.tvm && decide (k = 20)) || (s.cfg.hasU && s.mstatus.tw && decide (k = 21)) ||
        (s.cfg.hasS && s.mstatus.tsr && decide (k = 22))) := by
  simp (disch := omega) only [State.readMstatus, State.uxl, State.sxl, BitVec.getLsbD_or, bitAt_getLsbD_of_lt,
    level_shift_getLsbD]

/-- The fields mstatus has after a write, where they exist (R34). -/
theorem State.writeMstatus_fields (s : State) (v : Word) :
    (s.csrWrite .mstatus v).mstatus.mie = v.getLsbD 3 ∧ (s.csrWrite .mstatus v).mstatus.mpie = v.getLsbD 7 ∧
    (s.cfg.hasS && (s.csrWrite .mstatus v).mstatus.sie) = (s.cfg.hasS && v.getLsbD 1) ∧
    (s.cfg.hasS && (s.csrWrite .mstatus v).mstatus.spie) = (s.cfg.hasS && v.getLsbD 5) ∧
    (s.cfg.hasS && (s.csrWrite .mstatus v).mstatus.spp) = (s.cfg.hasS && v.getLsbD 8) ∧
    (s.cfg.hasS && (s.csrWrite .mstatus v).mstatus.tvm) = (s.cfg.hasS && v.getLsbD 20) ∧
    (s.cfg.hasU && (s.csrWrite .mstatus v).mstatus.tw) = (s.cfg.hasU && v.getLsbD 21) ∧
    (s.cfg.hasS && (s.csrWrite .mstatus v).mstatus.tsr) = (s.cfg.hasS && v.getLsbD 22) ∧
    (s.csrWrite .mstatus v).fsField.getLsbD 0 = (s.cfg.extF && v.getLsbD 13) ∧
    (s.csrWrite .mstatus v).fsField.getLsbD 1 = (s.cfg.extF && v.getLsbD 14) := by
  refine ⟨rfl, rfl, ?_, ?_, ?_, ?_, ?_, ?_, ?_, ?_⟩
  iterate 3 cases h : s.cfg.hasS <;> simp [State.csrWrite, State.writeMstatus, State.writeShared, h]
  · cases h : s.cfg.hasS <;> simp [State.csrWrite, State.writeMstatus, h]
  · cases h : s.cfg.hasU <;> simp [State.csrWrite, State.writeMstatus, h]
  · cases h : s.cfg.hasS <;> simp [State.csrWrite, State.writeMstatus, h]
  all_goals
    cases h : s.cfg.extF <;> simp [State.csrWrite, State.writeMstatus, State.writeShared, State.fsField, bits, h]

/-- mstatus after a write, at the positions other than MPP. -/
theorem State.readMstatus_after_write (k : Nat) (h11 : k ≠ 11) (h12 : k ≠ 12) :
    (s.csrWrite .mstatus v).readMstatus.getLsbD k =
      ((s.cfg.hasS && v.getLsbD 1 && decide (k = 1)) || (s.cfg.hasS && v.getLsbD 5 && decide (k = 5)) ||
        (s.cfg.hasS && v.getLsbD 8 && decide (k = 8)) ||
        ((decide (k = 13) && (s.cfg.extF && v.getLsbD 13)) || (decide (k = 14) && (s.cfg.extF && v.getLsbD 14))) ||
        ((s.cfg.extF && v.getLsbD 13) && (s.cfg.extF && v.getLsbD 14) && decide (k = s.cfg.xlen.bits - 1)) ||
        (s.cfg.xlen == .rv64 && s.cfg.hasU && decide (k = 33)) ||
        (s.cfg.xlen == .rv64 && s.cfg.hasS && decide (k = 35)) ||
        (v.getLsbD 3 && decide (k = 3)) || (v.getLsbD 7 && decide (k = 7)) ||
        (s.cfg.hasS && v.getLsbD 20 && decide (k = 20)) || (s.cfg.hasU && v.getLsbD 21 && decide (k = 21)) ||
        (s.cfg.hasS && v.getLsbD 22 && decide (k = 22))) := by
  obtain ⟨hmie, hmpie, hsie, hspie, hspp, htvm, htw, htsr, hfs0, hfs1⟩ := s.writeMstatus_fields v
  have hcfg : (s.csrWrite .mstatus v).cfg = s.cfg := rfl
  rw [State.readMstatus_getLsbD, State.sharedStatus_getLsbD]
  simp only [hcfg, hmie, hmpie, hsie, hspie, hspp, htvm, htw, htsr, hfs0, hfs1, decide_eq_false h11,
    decide_eq_false h12, Bool.false_and, Bool.or_false]

/-- The two bits of a mode name it. -/
theorem Priv.ofBits_eq_some_iff (b : BitVec 2) (p : Priv) : Priv.ofBits b = some p ↔ Priv.level p = b.toNat := by
  cases p <;> revert b <;> decide

theorem bitAt_and (b : Bool) (k : Nat) (m : Word) : bitAt b k &&& m = bitAt (b && m.getLsbD k) k := by
  apply BitVec.eq_of_getLsbD_eq
  intro j _
  rw [BitVec.getLsbD_and, bitAt_getLsbD, bitAt_getLsbD]
  by_cases hj : j = k
  · cases b <;> simp [hj, Bool.and_comm]
  · simp [hj]

@[simp] theorem bitAt_false (k : Nat) : bitAt false k = 0#64 := rfl

theorem level_shift_and (p : Priv) {m : Word} (hm : m &&& 0x1800#64 = 0#64) :
    ((BitVec.ofNat 64 (Priv.level p)) <<< 11) &&& m = 0#64 := by
  have hle : (BitVec.ofNat 64 (Priv.level p)) <<< 11 = (BitVec.ofNat 64 (Priv.level p)) <<< 11 &&& 0x1800#64 := by
    cases p <;> decide
  rw [hle, BitVec.and_assoc, BitVec.and_comm 0x1800#64, hm, BitVec.and_zero]

theorem fs_shift_and (f : BitVec 2) {m : Word} (hm : m &&& 0x6000#64 = 0x6000#64) :
    (f.setWidth 64 <<< 13) &&& m = f.setWidth 64 <<< 13 := by
  have hle : (f.setWidth 64 : Word) <<< 13 = f.setWidth 64 <<< 13 &&& 0x6000#64 := by
    revert f
    decide
  rw [hle, BitVec.and_assoc, BitVec.and_comm 0x6000#64, hm]

/-- sstatus is mstatus under the mask of its fields (R36). -/
theorem State.readSstatus_eq_mask (s : State) {mask : Word}
    (h : mask = (match s.cfg.xlen with | .rv32 => 0x80006122#64 | .rv64 => 0x8000000300006122#64)) :
    s.readSstatus = s.readMstatus &&& mask := by
  have hmpp : mask &&& 0x1800#64 = 0#64 := by rw [h]; cases s.cfg.xlen <;> decide
  have hfs : mask &&& 0x6000#64 = 0x6000#64 := by rw [h]; cases s.cfg.xlen <;> decide
  rw [State.readMstatus, State.readSstatus, State.sharedStatus, State.uxl, State.sxl]
  simp only [BitVec.and_or_distrib_right, bitAt_and, level_shift_and _ hmpp, fs_shift_and _ hfs]
  cases hx : s.cfg.xlen
  all_goals
    rw [hx] at h
    subst h
    simp [Xlen.bits, show (Xlen.rv32 == Xlen.rv64) = false from rfl]

/-- Settles O37. -/
theorem statusFieldsReadBack : Obligations.StatusFieldsReadBack := by
  unfold Obligations.StatusFieldsReadBack
  intro s v w
  have hbit : ∀ k, k ≠ 11 → k ≠ 12 → w.getLsbD k = _ := fun k h11 h12 => s.readMstatus_after_write v k h11 h12
  have hmpp : (s.csrWrite .mstatus v).mstatus.mpp = s.writeMpp v := rfl
  have hlevel : (bits v 11 2).toNat = v.toNat / 2 ^ 11 % 4 := bits_toNat v 11 2
  have hsd : s.cfg.xlen.bits - 1 = 31 ∨ s.cfg.xlen.bits - 1 = 63 := by cases s.cfg.xlen <;> decide
  have hlow : ∀ k, k < 31 → (decide (k = s.cfg.xlen.bits - 1)) = false := by
    intro k hk
    exact decide_eq_false (by omega)
  refine ⟨?_, ?_, ?_, ?_, ?_, ?_, ?_, ?_, ?_, ?_, ?_, ?_, rfl, rfl⟩
  · rw [hbit 3 (by decide) (by decide), hlow 3 (by decide)]
    simp
  · rw [hbit 7 (by decide) (by decide), hlow 7 (by decide)]
    simp
  · simp (disch := decide) only [List.forall_mem_cons, hbit, hlow]
    simp
  · rw [hbit 21 (by decide) (by decide), hlow 21 (by decide)]
    simp
  · simp (disch := decide) only [List.forall_mem_cons, hbit, hlow]
    simp
  · simp (disch := decide) only [List.forall_mem_cons, hbit, hlow]
    simp
  · rw [hbit _ (by rw [State.width]; omega) (by rw [State.width]; omega), State.width]
    cases s.cfg.xlen <;> cases s.cfg.extF <;> simp [Xlen.bits]
  · intro hx
    have hw : s.cfg.xlen.bits - 1 = 63 := by rw [hx]; rfl
    rw [hw, hx] at hbit
    refine ⟨?_, ?_, ?_, ?_, ?_, fun k hlo hhi => ?_⟩
    · rw [hbit 31 (by decide) (by decide)]; simp
    · rw [hbit 32 (by decide) (by decide)]; simp
    · rw [hbit 33 (by decide) (by decide)]; simp
    · rw [hbit 34 (by decide) (by decide)]; simp
    · rw [hbit 35 (by decide) (by decide)]; simp
    rw [hbit k (by omega) (by omega)]
    have hne : ∀ j, j < 36 ∨ j = 63 → decide (k = j) = false := fun j hj => decide_eq_false (by omega)
    simp (disch := omega) only [hne, Bool.and_false, Bool.false_and, Bool.or_false]
  · intro p hp hmode
    rw [hmpp, State.writeMpp, (Priv.ofBits_eq_some_iff _ p).2 (hp.trans hlevel.symm)]
    exact if_pos hmode
  · intro hno
    rw [hmpp, State.writeMpp]
    cases hb : Priv.ofBits (bits v 11 2) with
    | none => rfl
    | some p =>
      have hmode := hno p (((Priv.ofBits_eq_some_iff _ p).1 hb).trans hlevel)
      simp [hmode]
  · have h11 : w.getLsbD 11 = (Priv.level (s.csrWrite .mstatus v).mstatus.mpp).testBit 0 := by
      have hw : 11 ≠ s.cfg.xlen.bits - 1 := by cases s.cfg.xlen <;> decide
      change (s.csrWrite .mstatus v).readMstatus.getLsbD 11 = _
      rw [State.readMstatus_getLsbD, State.sharedStatus_getLsbD]
      simp [show (s.csrWrite .mstatus v).cfg = s.cfg from rfl, hw]
    have h12 : w.getLsbD 12 = (Priv.level (s.csrWrite .mstatus v).mstatus.mpp).testBit 1 := by
      have hw : 12 ≠ s.cfg.xlen.bits - 1 := by cases s.cfg.xlen <;> decide
      change (s.csrWrite .mstatus v).readMstatus.getLsbD 12 = _
      rw [State.readMstatus_getLsbD, State.sharedStatus_getLsbD]
      simp [show (s.csrWrite .mstatus v).cfg = s.cfg from rfl, hw]
    rw [BitVec.getLsbD] at h11 h12
    apply Nat.eq_of_testBit_eq
    intro i
    have h4 : w.toNat / 2 ^ 11 % 4 = w.toNat / 2 ^ 11 % 2 ^ 2 := rfl
    rw [h4, Nat.testBit_mod_two_pow, Nat.testBit_div_two_pow]
    match i with
    | 0 => simpa using h11
    | 1 => simpa using h12
    | i + 2 =>
      have : (Priv.level (s.csrWrite .mstatus v).mstatus.mpp).testBit (i + 2) = false := by
        apply Nat.testBit_lt_two_pow
        calc Priv.level (s.csrWrite .mstatus v).mstatus.mpp < 2 ^ 2 := by
              cases (s.csrWrite .mstatus v).mstatus.mpp <;> decide
          _ ≤ 2 ^ (i + 2) := Nat.pow_le_pow_right (by decide) (by omega)
      simp [this]
  · exact s.readSstatus_eq_mask rfl

end

end Sys2Proof.Machine
end

section
/-!
PROOFS about integer computation: register and immediate forms (O19, O20), shifts (O21), the word forms (O22), products
(O23), quotients (O24) and the compressed forms (O25).

An operation at width XLEN works on the low XLEN bits of its operands. Those bits are the register's number modulo
2^XLEN, so that each operation is compared with its numeric description on bit vectors of that one width.
-/
namespace Sys2Proof.Machine

open Sys2Proof

section

variable (s : State)

/-! ## Operands at width XLEN -/

theorem State.norm_eq_setWidth (v : Word) : s.norm v = (v.setWidth s.width).setWidth 64 := by
  rcases s.width_cases with ⟨hx, hw⟩ | ⟨hx, hw⟩
  · rw [hw, State.norm_rv32 hx]
  · rw [hw, State.norm_rv64 hx]
    simp

theorem State.getX_setWidth_toNat (i : Reg) : ((s.getX i).setWidth s.width).toNat = s.unsignedX i := by
  rw [BitVec.toNat_setWidth]
  exact Nat.mod_eq_of_lt (s.unsignedX_lt i)

theorem State.getX_setWidth_toInt (i : Reg) : ((s.getX i).setWidth s.width).toInt = s.signedX i := by
  have hpos : 0 < s.width := by rcases s.width_eq with h | h <;> omega
  rw [← twos_toInt hpos, s.getX_setWidth_toNat]
  rfl

theorem State.word_setWidth (v : Int) : (s.word v).setWidth s.width = BitVec.ofInt s.width v := by
  apply BitVec.eq_of_toNat_eq
  have h := s.word_toNat v
  rw [BitVec.toNat_setWidth, BitVec.toNat_ofInt]
  push_cast
  rcases s.width_eq with hw | hw <;> simp only [hw] at h ⊢ <;> omega

theorem State.ofInt_unsignedX (i : Reg) : BitVec.ofInt s.width (s.unsignedX i) = (s.getX i).setWidth s.width := by
  rw [← s.getX_setWidth_toNat, BitVec.ofInt_natCast, BitVec.ofNat_toNat, BitVec.setWidth_eq]

theorem State.ofInt_signedX (i : Reg) : BitVec.ofInt s.width (s.signedX i) = (s.getX i).setWidth s.width := by
  rw [← s.getX_setWidth_toInt, BitVec.ofInt_toInt]

theorem State.word_unsignedX (i : Reg) : s.word (s.unsignedX i) = s.getX i := by
  rw [← State.norm_getX, ← State.norm_word, State.norm_eq_setWidth, State.norm_eq_setWidth, s.word_setWidth,
    s.ofInt_unsignedX]

theorem State.sext_setWidth_width {n : Nat} (v : BitVec n) (hn : n ≤ 64) :
    (s.sext v).setWidth s.width = BitVec.ofInt s.width v.toInt := by
  rw [s.sext_eq_word v hn, s.word_setWidth]

/-- The immediate of a comparison keeps its sign at width XLEN. -/
theorem State.ofInt_toInt_of_le {n : Nat} (v : BitVec n) (hn : n ≤ 32) :
    (BitVec.ofInt s.width v.toInt).toInt = v.toInt := by
  have hle : n ≤ s.width := by rcases s.width_eq with h | h <;> omega
  exact BitVec.toInt_signExtend_of_le hle

theorem State.getX_setWidth_eq_zero_iff (i : Reg) : (s.getX i).setWidth s.width = 0 ↔ s.unsignedX i = 0 := by
  rw [← BitVec.toNat_inj, s.getX_setWidth_toNat]
  rfl

/-! ## Ends of computations -/

variable {s}

/-- An instruction that passes the gate ends in its result. -/
theorem exec_eq_wrote {i : Instr} {len : Word} {rd : Reg} {x v : Word}
    (he : exec i s = s.gate i (s.result len rd x)) (hp : s.permits i = true) (h : s.norm x = s.norm v) :
    exec i s = .next (s.wrote len rd v) := by
  rw [he, State.gate_of_permits hp, State.result, State.setX_congr h]
  rfl

/-- An operation at width XLEN, described on the bits of that width. -/
theorem exec_wide {i : Instr} {len : Word} {rd : Reg} {a b v : Word}
    {op : (n : Nat) → BitVec n → BitVec n → BitVec n}
    (he : exec i s = s.gate i (s.result len rd (s.wide op a b))) (hp : s.permits i = true)
    (h : op s.width (a.setWidth s.width) (b.setWidth s.width) = v.setWidth s.width) :
    exec i s = .next (s.wrote len rd v) := by
  refine exec_eq_wrote he hp ?_
  rw [State.norm_eq_setWidth, State.norm_eq_setWidth, ← h, State.wide]
  rcases s.width_cases with ⟨hx, hw⟩ | ⟨hx, hw⟩
  · rw [hw]
    simp [hx]
  · rw [hw]
    simp [hx]

theorem exec_wide_word {i : Instr} {len : Word} {rd : Reg} {a b : Word} {v : Int}
    {op : (n : Nat) → BitVec n → BitVec n → BitVec n}
    (he : exec i s = s.gate i (s.result len rd (s.wide op a b))) (hp : s.permits i = true)
    (h : op s.width (a.setWidth s.width) (b.setWidth s.width) = BitVec.ofInt s.width v) :
    exec i s = .next (s.wrote len rd (s.word v)) :=
  exec_wide he hp (h.trans (s.word_setWidth v).symm)

/-- The value of a word result: the low 32 bits, sign-extended (R200 f). -/
theorem State.wordW_eq (v : Int) : s.wordW v = s.word (BitVec.ofInt 32 v).toInt := by
  rw [State.wordW, ← twos_toInt (by decide), BitVec.toNat_ofInt]
  rfl

theorem exec_word {i : Instr} {len : Word} {rd : Reg} {a b : Word} {v : Int}
    {op : (n : Nat) → BitVec n → BitVec n → BitVec n}
    (he : exec i s = s.gate i (s.result len rd (wordWide op a b))) (hp : s.permits i = true)
    (h : op 32 (a.setWidth 32) (b.setWidth 32) = BitVec.ofInt 32 v) :
    exec i s = .next (s.wrote len rd (s.wordW v)) := by
  refine exec_eq_wrote he hp ?_
  rw [wordWide, h, State.wordW_eq, State.norm_word]
  exact s.sext_eq_word (BitVec.ofInt 32 v) (by decide)

/-- What an instruction of one XLEN needs. -/
theorem State.permits_of_rv64 {i : Instr} (hx : s.cfg.xlen = .rv64) (hhas : Params.has s.cfg i.ext = true)
    (hxlen : i.xlenOnly = some .rv64 ∨ i.xlenOnly = none) (hfloat : Ext.isFloat i.ext = false) :
    s.permits i = true := by
  rcases hxlen with h | h <;> simp [State.permits, Params.available, hhas, hx, h, hfloat]

end

/-! ## The operations on numbers -/

namespace Alu

variable {n : Nat} (a b : BitVec n) (x y : Int)

theorem add_ofInt : add n (BitVec.ofInt n x) (BitVec.ofInt n y) = BitVec.ofInt n (x + y) := (BitVec.ofInt_add x y).symm

theorem sub_ofInt : sub n (BitVec.ofInt n x) (BitVec.ofInt n y) = BitVec.ofInt n (x - y) := by
  rw [sub, Int.sub_eq_add_neg, BitVec.ofInt_add, BitVec.ofInt_neg, BitVec.sub_eq_add_neg]

theorem mul_ofInt : mul n (BitVec.ofInt n x) (BitVec.ofInt n y) = BitVec.ofInt n (x * y) := (BitVec.ofInt_mul x y).symm

theorem shiftLeft_eq_ofInt (k : Nat) : a <<< k = BitVec.ofInt n ((a.toNat : Int) * 2 ^ k) := by
  apply BitVec.eq_of_toNat_eq
  rw [BitVec.toNat_shiftLeft, Nat.shiftLeft_eq, BitVec.toNat_ofInt]
  norm_cast

theorem ushiftRight_eq_ofInt (k : Nat) : a >>> k = BitVec.ofInt n ((a.toNat : Int) / 2 ^ k) := by
  apply BitVec.eq_of_toNat_eq
  have hlt : a.toNat / 2 ^ k < 2 ^ n := (Nat.div_le_self _ _).trans_lt a.isLt
  rw [BitVec.toNat_ushiftRight, Nat.shiftRight_eq_div_pow, BitVec.toNat_ofInt]
  norm_cast
  exact (Nat.mod_eq_of_lt hlt).symm

theorem sshiftRight_eq_ofInt (k : Nat) : a.sshiftRight k = BitVec.ofInt n (a.toInt / 2 ^ k) := by
  rw [BitVec.sshiftRight, Int.shiftRight_eq_div_pow]
  norm_cast

theorem allOnes_eq_ofInt : BitVec.allOnes n = BitVec.ofInt n (-1) := by
  rw [← BitVec.neg_one_eq_allOnes, BitVec.ofInt_neg]
  rfl

theorem div_eq_ofInt : div n a b = BitVec.ofInt n (if b = 0 then -1 else a.toInt.tdiv b.toInt) := by
  rw [div]
  split
  · exact allOnes_eq_ofInt
  · rfl

theorem divu_eq_ofInt : divu n a b = BitVec.ofInt n (if b = 0 then -1 else (a.toNat : Int) / b.toNat) := by
  rw [divu]
  split
  · exact allOnes_eq_ofInt
  · norm_cast

theorem rem_eq_ofInt : rem n a b = BitVec.ofInt n (if b = 0 then a.toInt else a.toInt.tmod b.toInt) := by
  rw [rem]
  split
  · exact (BitVec.ofInt_toInt).symm
  · rfl

theorem remu_eq_ofInt : remu n a b = BitVec.ofInt n (if b = 0 then (a.toNat : Int) else a.toNat % b.toNat) := by
  rw [remu]
  split
  · rw [BitVec.ofInt_natCast, BitVec.ofNat_toNat, BitVec.setWidth_eq]
  · norm_cast

end Alu

/-- A truth value as a result is the same at every width. -/
theorem setWidth_ite_one_zero (p : Prop) [Decidable p] (n : Nat) :
    (if p then (1 : BitVec n) else 0) = (if p then (1 : Word) else 0).setWidth n := by
  split
  · apply BitVec.eq_of_toNat_eq
    simp [BitVec.toNat_ofNat]
  · simp

/-! ## The obligations -/

section

variable {s : State} {i : Instr}

/-- The instructions of the base set that every XLEN has pass the gate. -/
theorem permits_base (hext : i.ext = .base) (hxlen : i.xlenOnly = none) (hshamt : i.shamt = 0) : s.permits i = true := by
  refine State.permits_of_has ?_ hxlen hshamt ?_ <;> rw [hext] <;> rfl

end

/-- Settles O19. -/
theorem registerArithmeticCompletes : Obligations.RegisterArithmeticCompletes := by
  unfold Obligations.RegisterArithmeticCompletes
  intro s rd rs1 rs2
  refine ⟨exec_wide_word rfl (permits_base rfl rfl rfl) ?add, exec_wide_word rfl (permits_base rfl rfl rfl) ?sub,
    exec_wide rfl (permits_base rfl rfl rfl) ?and, exec_wide rfl (permits_base rfl rfl rfl) ?or,
    exec_wide rfl (permits_base rfl rfl rfl) ?xor, exec_wide_word rfl (permits_base rfl rfl rfl) ?sll,
    exec_wide_word rfl (permits_base rfl rfl rfl) ?srl, exec_wide_word rfl (permits_base rfl rfl rfl) ?sra,
    exec_wide rfl (permits_base rfl rfl rfl) ?slt, exec_wide rfl (permits_base rfl rfl rfl) ?sltu⟩
  case add => rw [← s.ofInt_unsignedX, ← s.ofInt_unsignedX, Alu.add_ofInt]
  case sub => rw [← s.ofInt_unsignedX, ← s.ofInt_unsignedX, Alu.sub_ofInt]
  case and => exact BitVec.setWidth_and.symm
  case or => exact BitVec.setWidth_or.symm
  case xor => exact BitVec.setWidth_xor.symm
  case sll => rw [Alu.sll, Alu.shiftLeft_eq_ofInt, s.getX_setWidth_toNat, s.getX_setWidth_toNat]
  case srl => rw [Alu.srl, Alu.ushiftRight_eq_ofInt, s.getX_setWidth_toNat, s.getX_setWidth_toNat]
  case sra => rw [Alu.sra, Alu.sshiftRight_eq_ofInt, s.getX_setWidth_toInt, s.getX_setWidth_toNat]
  case slt => rw [Alu.slt, s.getX_setWidth_toInt, s.getX_setWidth_toInt, setWidth_ite_one_zero]
  case sltu => rw [Alu.sltu, s.getX_setWidth_toNat, s.getX_setWidth_toNat, setWidth_ite_one_zero]

theorem State.upper_eq (s : State) (imm : BitVec 20) : s.upper imm = s.word (imm.toInt * 2 ^ 12) := by
  have happ : (imm ++ 0#12).toInt = imm.toInt * 2 ^ 12 := by
    rw [BitVec.toInt_eq_toNat_cond, BitVec.toInt_eq_toNat_cond, BitVec.toNat_append]
    simp only [BitVec.toNat_ofNat, Nat.shiftLeft_eq, Nat.or_zero, Nat.zero_mod]
    split <;> split <;> omega
  rw [State.upper, s.sext_eq_word _ (by decide), happ]

/-- A displacement from pc is added to the number in pc (R139, R207). -/
theorem State.norm_pc_add_word (s : State) (v : Int) : s.norm (s.pc + s.word v) = s.word (s.pc.toNat + v) := by
  have hle : s.width ≤ 64 := by rcases s.width_eq with h | h <;> omega
  rw [← s.norm_word (s.pc.toNat + v), State.norm_eq_setWidth, State.norm_eq_setWidth, BitVec.setWidth_add _ _ hle,
    s.word_setWidth, s.word_setWidth, BitVec.ofInt_add, BitVec.ofInt_natCast, BitVec.ofNat_toNat]

/-- Settles O20. -/
theorem immediateArithmeticCompletes : Obligations.ImmediateArithmeticCompletes := by
  unfold Obligations.ImmediateArithmeticCompletes
  intro s rd rs1 imm up
  have himm : (s.sext imm).setWidth s.width = BitVec.ofInt s.width imm.toInt := s.sext_setWidth_width imm (by decide)
  have hsext : s.sext imm = s.word imm.toInt := s.sext_eq_word imm (by decide)
  refine ⟨exec_wide_word rfl (permits_base rfl rfl rfl) ?addi, exec_wide rfl (permits_base rfl rfl rfl) ?andi,
    exec_wide rfl (permits_base rfl rfl rfl) ?ori, exec_wide rfl (permits_base rfl rfl rfl) ?xori,
    exec_wide rfl (permits_base rfl rfl rfl) ?slti, exec_wide rfl (permits_base rfl rfl rfl) ?sltiu,
    exec_eq_wrote rfl (permits_base rfl rfl rfl) ?lui, exec_eq_wrote rfl (permits_base rfl rfl rfl) ?auipc⟩
  case addi => rw [himm, ← s.ofInt_unsignedX, Alu.add_ofInt]
  case andi => rw [hsext]; exact BitVec.setWidth_and.symm
  case ori => rw [hsext]; exact BitVec.setWidth_or.symm
  case xori => rw [hsext]; exact BitVec.setWidth_xor.symm
  case slti =>
    rw [Alu.slt, himm, s.getX_setWidth_toInt, s.ofInt_toInt_of_le imm (by decide), setWidth_ite_one_zero]
  case sltiu =>
    have hlt : (s.word imm.toInt).toNat < 2 ^ s.width := by
      rw [← State.norm_word]
      exact s.norm_toNat_lt _
    rw [Alu.sltu, hsext, s.getX_setWidth_toNat, BitVec.toNat_setWidth, Nat.mod_eq_of_lt hlt, setWidth_ite_one_zero]
  case lui => rw [s.upper_eq]
  case auipc => rw [s.upper_eq, s.norm_pc_add_word, State.norm_word]

/-! ## Shifts by an immediate -/

section

variable {s : State} {i : Instr} {sh : BitVec 6}

/-- A shift amount of 32 or more needs XLEN = 64 (R140). -/
theorem bits_shamt_eq_zero_iff : bits sh 5 1 = 0#1 ↔ sh.toNat < 32 := by
  revert sh
  decide

theorem permits_shift (hshamt : i.shamt = sh) (hhas : Params.has s.cfg i.ext = true) (hxlen : i.xlenOnly = none)
    (hfloat : Ext.isFloat i.ext = false) (h : sh.toNat < s.width) : s.permits i = true := by
  rcases s.width_cases with ⟨hx, hw⟩ | ⟨hx, hw⟩
  · have hb := bits_shamt_eq_zero_iff.2 (hw ▸ h)
    simp [State.permits, Params.available, hhas, hxlen, hfloat, hshamt, hb]
  · simp [State.permits, Params.available, hhas, hxlen, hfloat, hx]

theorem not_permits_shift (hshamt : i.shamt = sh) (h : s.width ≤ sh.toNat) : s.permits i = false := by
  have hlt := sh.isLt
  rcases s.width_cases with ⟨hx, hw⟩ | ⟨hx, hw⟩
  · have hb : ¬ bits sh 5 1 = 0#1 := fun hb => absurd (bits_shamt_eq_zero_iff.1 hb) (by omega)
    simp [State.permits, Params.available, hshamt, hb, hx]
  · omega

theorem shamt_setWidth_toNat (h : sh.toNat < s.width) :
    ((sh.setWidth 64 : Word).setWidth s.width).toNat % s.width = sh.toNat := by
  have hlt := sh.isLt
  rw [BitVec.toNat_setWidth, BitVec.toNat_setWidth]
  rcases s.width_eq with hw | hw <;> rw [hw] at h ⊢ <;> omega

end

/-- Settles O21. -/
theorem immediateShiftsComplete : Obligations.ImmediateShiftsComplete := by
  unfold Obligations.ImmediateShiftsComplete
  intro s rd rs1 sh
  refine ⟨fun h => ⟨exec_wide_word rfl (permits_shift rfl rfl rfl rfl h) ?slli,
    exec_wide_word rfl (permits_shift rfl rfl rfl rfl h) ?srli,
    exec_wide_word rfl (permits_shift rfl rfl rfl rfl h) ?srai⟩, fun h => ⟨?_, ?_, ?_⟩⟩
  case slli => rw [Alu.sll, Alu.shiftLeft_eq_ofInt, s.getX_setWidth_toNat, shamt_setWidth_toNat h]
  case srli => rw [Alu.srl, Alu.ushiftRight_eq_ofInt, s.getX_setWidth_toNat, shamt_setWidth_toNat h]
  case srai => rw [Alu.sra, Alu.sshiftRight_eq_ofInt, s.getX_setWidth_toInt, shamt_setWidth_toNat h]
  all_goals exact State.gate_of_not_permits (not_permits_shift rfl h) _

/-! ## The word forms -/

theorem State.ofInt_unsignedW (s : State) (i : Reg) : BitVec.ofInt 32 (s.unsignedW i) = (s.getX i).setWidth 32 := by
  rw [s.unsignedW_eq, BitVec.ofInt_natCast, BitVec.ofNat_toNat, BitVec.setWidth_eq]

/-- The low 32 bits of a sign-extended immediate. -/
theorem State.sext_setWidth_32 (s : State) {n : Nat} (v : BitVec n) (hn : n ≤ 64) :
    (s.sext v).setWidth 32 = BitVec.ofInt 32 v.toInt := by
  have h := s.sext_setWidth_width v hn
  have hle : 32 ≤ s.width := by rcases s.width_eq with hw | hw <;> omega
  rw [← BitVec.setWidth_setWidth_of_le _ hle, h]
  apply BitVec.eq_of_toNat_eq
  rw [BitVec.toNat_setWidth, BitVec.toNat_ofInt, BitVec.toNat_ofInt]
  rcases s.width_eq with hw | hw <;> rw [hw] <;> omega

theorem shamtW_toNat {n : Nat} (hn : n = 5) (sh : BitVec n) : ((sh.setWidth 64 : Word).setWidth 32).toNat % 32 = sh.toNat := by
  subst hn
  have hlt := sh.isLt
  rw [BitVec.toNat_setWidth, BitVec.toNat_setWidth]
  omega

theorem State.amountW (s : State) (i : Reg) : ((s.getX i).setWidth 32).toNat % 32 = s.unsignedX i % 32 := by
  rw [BitVec.toNat_setWidth, State.unsignedX]
  omega

/-- Settles O22. -/
theorem wordArithmeticCompletes : Obligations.WordArithmeticCompletes := by
  unfold Obligations.WordArithmeticCompletes
  intro s rd rs1 rs2 imm sh hx
  have hp : ∀ i : Instr, i.ext = .base → i.xlenOnly = some .rv64 → s.permits i = true := fun i hext hxlen =>
    State.permits_of_rv64 hx (by rw [hext]; rfl) (.inl hxlen) (by rw [hext]; rfl)
  have himm := s.sext_setWidth_32 imm (by decide)
  refine ⟨exec_word rfl (hp _ rfl rfl) ?addw, exec_word rfl (hp _ rfl rfl) ?subw, exec_word rfl (hp _ rfl rfl) ?addiw,
    exec_word rfl (hp _ rfl rfl) ?sllw, exec_word rfl (hp _ rfl rfl) ?srlw, exec_word rfl (hp _ rfl rfl) ?sraw,
    exec_word rfl (hp _ rfl rfl) ?slliw, exec_word rfl (hp _ rfl rfl) ?srliw, exec_word rfl (hp _ rfl rfl) ?sraiw⟩
  case addw => rw [← s.ofInt_unsignedW, ← s.ofInt_unsignedW, Alu.add_ofInt]
  case subw => rw [← s.ofInt_unsignedW, ← s.ofInt_unsignedW, Alu.sub_ofInt]
  case addiw => rw [himm, ← s.ofInt_unsignedW, Alu.add_ofInt]
  case sllw => rw [Alu.sll, Alu.shiftLeft_eq_ofInt, ← s.unsignedW_eq, s.amountW]
  case srlw => rw [Alu.srl, Alu.ushiftRight_eq_ofInt, ← s.unsignedW_eq, s.amountW]
  case sraw => rw [Alu.sra, Alu.sshiftRight_eq_ofInt, ← s.signedW_eq, s.amountW]
  case slliw => rw [Alu.sll, Alu.shiftLeft_eq_ofInt, ← s.unsignedW_eq, shamtW_toNat rfl]
  case srliw => rw [Alu.srl, Alu.ushiftRight_eq_ofInt, ← s.unsignedW_eq, shamtW_toNat rfl]
  case sraiw => rw [Alu.sra, Alu.sshiftRight_eq_ofInt, ← s.signedW_eq, shamtW_toNat rfl]

/-! ## Products and quotients -/

section

variable {s : State} {i : Instr}

theorem permits_m (hM : s.cfg.extM = true) (hext : i.ext = .m) (hxlen : i.xlenOnly = none) (hshamt : i.shamt = 0) :
    s.permits i = true := by
  refine State.permits_of_has ?_ hxlen hshamt ?_ <;> rw [hext]
  · exact hM
  · rfl

theorem permits_m_rv64 (hM : s.cfg.extM = true) (hx : s.cfg.xlen = .rv64) (hext : i.ext = .m)
    (hxlen : i.xlenOnly = some .rv64) : s.permits i = true := by
  refine State.permits_of_rv64 hx ?_ (.inl hxlen) ?_ <;> rw [hext]
  · exact hM
  · rfl

end

/-- Settles O23. -/
theorem productsComplete : Obligations.ProductsComplete := by
  unfold Obligations.ProductsComplete
  intro s rd rs1 rs2 hM
  refine ⟨exec_wide_word rfl (permits_m hM rfl rfl rfl) ?mul, exec_wide_word rfl (permits_m hM rfl rfl rfl) ?mulh,
    exec_wide_word rfl (permits_m hM rfl rfl rfl) ?mulhsu, exec_wide_word rfl (permits_m hM rfl rfl rfl) ?mulhu,
    fun hx => exec_word rfl (permits_m_rv64 hM hx rfl rfl) ?mulw⟩
  case mul => rw [← s.ofInt_unsignedX, ← s.ofInt_unsignedX, Alu.mul_ofInt]
  case mulh => rw [Alu.mulh, s.getX_setWidth_toInt, s.getX_setWidth_toInt]
  case mulhsu => rw [Alu.mulhsu, s.getX_setWidth_toInt, s.getX_setWidth_toNat]
  case mulhu => rw [Alu.mulhu, s.getX_setWidth_toNat, s.getX_setWidth_toNat, BitVec.ofInt_natCast]
  case mulw => rw [← s.ofInt_unsignedW, ← s.ofInt_unsignedW, Alu.mul_ofInt]

theorem State.getX_setWidth_32_eq_zero_iff (s : State) (i : Reg) :
    (s.getX i).setWidth 32 = 0 ↔ s.unsignedW i = 0 := by
  rw [← BitVec.toNat_inj, s.unsignedW_eq]
  rfl

/-- Settles O24. -/
theorem quotientsComplete : Obligations.QuotientsComplete := by
  unfold Obligations.QuotientsComplete
  intro s rd rs1 rs2 hM
  refine ⟨exec_wide_word rfl (permits_m hM rfl rfl rfl) ?div, exec_wide_word rfl (permits_m hM rfl rfl rfl) ?divu,
    exec_wide_word rfl (permits_m hM rfl rfl rfl) ?rem, exec_wide_word rfl (permits_m hM rfl rfl rfl) ?remu,
    fun hx => ⟨exec_word rfl (permits_m_rv64 hM hx rfl rfl) ?divw, exec_word rfl (permits_m_rv64 hM hx rfl rfl) ?divuw,
      exec_word rfl (permits_m_rv64 hM hx rfl rfl) ?remw, exec_word rfl (permits_m_rv64 hM hx rfl rfl) ?remuw⟩⟩
  case div =>
    simp only [Alu.div_eq_ofInt, s.getX_setWidth_toInt, s.getX_setWidth_eq_zero_iff]
  case divu =>
    simp only [Alu.divu_eq_ofInt, s.getX_setWidth_toNat, s.getX_setWidth_eq_zero_iff]
  case rem =>
    simp only [Alu.rem_eq_ofInt, s.getX_setWidth_toInt, s.getX_setWidth_eq_zero_iff]
  case remu =>
    simp only [Alu.remu_eq_ofInt, s.getX_setWidth_toNat, s.getX_setWidth_eq_zero_iff]
  case divw =>
    simp only [Alu.div_eq_ofInt, ← s.signedW_eq, s.getX_setWidth_32_eq_zero_iff]
  case divuw =>
    simp only [Alu.divu_eq_ofInt, ← s.unsignedW_eq, s.getX_setWidth_32_eq_zero_iff]
  case remw =>
    simp only [Alu.rem_eq_ofInt, ← s.signedW_eq, s.getX_setWidth_32_eq_zero_iff]
  case remuw =>
    simp only [Alu.remu_eq_ofInt, ← s.unsignedW_eq, s.getX_setWidth_32_eq_zero_iff]

/-! ## The compressed forms -/

/-- Settles O25. -/
theorem compressedArithmeticCompletes : Obligations.CompressedArithmeticCompletes := by
  unfold Obligations.CompressedArithmeticCompletes
  intro s rd rs2 d r imm sh wide hC
  have hp : ∀ i : Instr, i.ext = .c → i.xlenOnly = none → i.shamt = 0 → s.permits i = true := fun i hext hxlen hshamt =>
    State.permits_of_has (by rw [hext]; exact hC) hxlen hshamt (by rw [hext]; rfl)
  have hx0 : BitVec.ofInt s.width 0 = (s.getX 0).setWidth s.width := by
    rw [State.getX_zero]
    exact (BitVec.setWidth_zero _ _).symm
  have himm : (s.sext imm).setWidth s.width = BitVec.ofInt s.width imm.toInt := s.sext_setWidth_width imm (by decide)
  refine ⟨exec_wide_word rfl (hp _ rfl rfl rfl) ?cAdd, exec_wide rfl (hp _ rfl rfl rfl) ?cMv,
    exec_wide_word rfl (hp _ rfl rfl rfl) ?cAddi, exec_wide_word rfl (hp _ rfl rfl rfl) ?cLi,
    exec_eq_wrote rfl (hp _ rfl rfl rfl) ?cLui, exec_wide_word rfl (hp _ rfl rfl rfl) ?cAddi16sp,
    exec_wide_word rfl (hp _ rfl rfl rfl) ?cAddi4spn, exec_wide_word rfl (hp _ rfl rfl rfl) ?cSub,
    exec_wide rfl (hp _ rfl rfl rfl) ?cAnd, exec_wide rfl (hp _ rfl rfl rfl) ?cOr,
    exec_wide rfl (hp _ rfl rfl rfl) ?cXor, exec_wide rfl (hp _ rfl rfl rfl) ?cAndi,
    fun h => ⟨exec_wide_word rfl (permits_shift rfl hC rfl rfl h) ?cSlli,
      exec_wide_word rfl (permits_shift rfl hC rfl rfl h) ?cSrli,
      exec_wide_word rfl (permits_shift rfl hC rfl rfl h) ?cSrai⟩,
    fun hx => ⟨exec_word rfl (State.permits_of_rv64 hx hC (.inl rfl) rfl) ?cAddiw,
      exec_word rfl (State.permits_of_rv64 hx hC (.inl rfl) rfl) ?cAddw,
      exec_word rfl (State.permits_of_rv64 hx hC (.inl rfl) rfl) ?cSubw⟩⟩
  case cAdd => rw [← s.ofInt_unsignedX, ← s.ofInt_unsignedX, Alu.add_ofInt]
  case cMv => rw [← hx0, ← s.ofInt_unsignedX rs2, Alu.add_ofInt, Int.zero_add]
  case cAddi => rw [himm, ← s.ofInt_unsignedX, Alu.add_ofInt]
  case cLi => rw [himm, ← hx0, Alu.add_ofInt, Int.zero_add]
  case cLui => rw [s.upper_eq, BitVec.toInt_signExtend_of_le (by decide)]
  case cAddi16sp => rw [s.sext_setWidth_width wide (by decide), ← s.ofInt_unsignedX, Alu.add_ofInt]
  case cAddi4spn =>
    rw [s.zext_eq_word wide (by decide), s.word_setWidth, ← s.ofInt_unsignedX, Alu.add_ofInt]
  case cSub => rw [← s.ofInt_unsignedX, ← s.ofInt_unsignedX, Alu.sub_ofInt]
  case cAnd => exact BitVec.setWidth_and.symm
  case cOr => exact BitVec.setWidth_or.symm
  case cXor => exact BitVec.setWidth_xor.symm
  case cAndi => rw [s.sext_eq_word imm (by decide)]; exact BitVec.setWidth_and.symm
  case cSlli => rw [Alu.sll, Alu.shiftLeft_eq_ofInt, s.getX_setWidth_toNat, shamt_setWidth_toNat h]
  case cSrli => rw [Alu.srl, Alu.ushiftRight_eq_ofInt, s.getX_setWidth_toNat, shamt_setWidth_toNat h]
  case cSrai => rw [Alu.sra, Alu.sshiftRight_eq_ofInt, s.getX_setWidth_toInt, shamt_setWidth_toNat h]
  case cAddiw => rw [s.sext_setWidth_32 imm (by decide), ← s.ofInt_unsignedW, Alu.add_ofInt]
  case cAddw => rw [← s.ofInt_unsignedW, ← s.ofInt_unsignedW, Alu.add_ofInt]
  case cSubw => rw [← s.ofInt_unsignedW, ← s.ofInt_unsignedW, Alu.sub_ofInt]

end Sys2Proof.Machine
end

section
/-!
PROOFS about control transfer (O26, O27), loads and stores (O29, O30, O31) and the accesses that trap (O28, O32).

Branches and jumps are first written as the conditions and targets on numbers; every load, store and atomic is the access
of `State.loads`, `State.stores` or `State.atomics`, with a continuation that depends on the instruction.
-/
namespace Sys2Proof.Machine

open Sys2Proof

/-- What the gate asks for, condition by condition. -/
theorem State.permits_of_conditions {s : State} {i : Instr} (hhas : Params.has s.cfg i.ext = true)
    (hxlen : ∀ x, i.xlenOnly = some x → s.cfg.xlen = x) (hshamt : i.shamt = 0)
    (hfloat : Ext.isFloat i.ext = true → s.fpOn = true) : s.permits i = true := by
  have hall : i.xlenOnly.all (fun x => x == s.cfg.xlen) = true := by
    cases hx : i.xlenOnly with
    | none => rfl
    | some x => simp [hxlen x hx]
  have hfp : (!Ext.isFloat i.ext || s.fpOn) = true := by
    cases hf : Ext.isFloat i.ext
    · rfl
    · simp [hfloat hf]
  simp [State.permits, Params.available, hhas, hall, hshamt, hfp]

section

variable (s : State)

/-! ## Comparisons -/

theorem State.compare_eq (op : (n : Nat) → BitVec n → BitVec n → Bool) (a b : Word) :
    s.compare op a b = op s.width (a.setWidth s.width) (b.setWidth s.width) := by
  rw [State.compare]
  rcases s.width_cases with ⟨hx, hw⟩ | ⟨hx, hw⟩
  · rw [hw]
    simp [hx]
  · rw [hw]
    simp [hx]

variable (a b : Reg)

theorem State.compare_eq_regs : s.compare Alu.eq (s.getX a) (s.getX b) = decide (s.unsignedX a = s.unsignedX b) := by
  rw [s.compare_eq, Alu.eq, Bool.eq_iff_iff, beq_iff_eq, decide_eq_true_eq, ← BitVec.toNat_inj,
    s.getX_setWidth_toNat, s.getX_setWidth_toNat]

theorem State.compare_ne_regs : s.compare Alu.ne (s.getX a) (s.getX b) = decide (s.unsignedX a ≠ s.unsignedX b) := by
  rw [decide_not, ← s.compare_eq_regs, s.compare_eq, s.compare_eq]
  rfl

theorem State.compare_lt_regs : s.compare Alu.lt (s.getX a) (s.getX b) = decide (s.signedX a < s.signedX b) := by
  rw [s.compare_eq, Alu.lt, s.getX_setWidth_toInt, s.getX_setWidth_toInt]

theorem State.compare_ge_regs : s.compare Alu.ge (s.getX a) (s.getX b) = decide (s.signedX b ≤ s.signedX a) := by
  rw [s.compare_eq, Alu.ge, s.getX_setWidth_toInt, s.getX_setWidth_toInt]

theorem State.compare_ltu_regs : s.compare Alu.ltu (s.getX a) (s.getX b) = decide (s.unsignedX a < s.unsignedX b) := by
  rw [s.compare_eq, Alu.ltu, s.getX_setWidth_toNat, s.getX_setWidth_toNat]

theorem State.compare_geu_regs : s.compare Alu.geu (s.getX a) (s.getX b) = decide (s.unsignedX b ≤ s.unsignedX a) := by
  rw [s.compare_eq, Alu.geu, s.getX_setWidth_toNat, s.getX_setWidth_toNat]

/-! ## Transfers -/

/-- The target of a transfer relative to pc. -/
theorem State.norm_pc_add_sext {n : Nat} (off : BitVec n) (hn : n ≤ 64) :
    s.norm (s.pc + s.sext off) = s.word (s.pc.toNat + off.toInt) := by
  rw [s.sext_eq_word off hn, s.norm_pc_add_word]

variable {s}

theorem State.jumpTo_of_good {t : Word} (h : s.badTarget t = false) : s.jumpTo t = .next (s.jumped t) := by
  rw [State.jumpTo, h]
  rfl

theorem State.jumpTo_of_bad {t : Word} (h : s.badTarget t = true) :
    s.jumpTo t = s.raise .instructionAddressMisaligned t := by rw [State.jumpTo, if_pos h]

theorem State.jumpLink_of_good {len t : Word} {rd : Reg} (h : s.badTarget t = false) :
    s.jumpLink len rd t = .next (s.linked len rd t) := by
  rw [State.jumpLink, h]
  rfl

theorem State.jumpLink_of_bad {len t : Word} {rd : Reg} (h : s.badTarget t = true) :
    s.jumpLink len rd t = s.raise .instructionAddressMisaligned t := by rw [State.jumpLink, if_pos h]

theorem State.linked_zero (len t : Word) : s.linked len 0 t = s.jumped t := by
  rw [State.linked, State.setX_zero]
  rfl

/-- A branch on a condition: to its target, or on. -/
theorem exec_branch {i : Instr} {len : Word} {n : Nat} {off : BitVec n} {taken : Bool} {p : Prop} [Decidable p]
    (hn : n ≤ 64) (he : exec i s = s.gate i (s.branch len taken off)) (hp : s.permits i = true)
    (hc : taken = decide p) :
    exec i s = if p then s.jumpTo (s.word (s.pc.toNat + off.toInt)) else .next (s.passed len) := by
  rw [he, State.gate_of_permits hp, State.branch, s.norm_pc_add_sext off hn, hc]
  by_cases h : p
  · rw [if_pos h, if_pos (decide_eq_true h)]
  · rw [if_neg h, if_neg (by simp [h])]
    rfl

end

section

variable (s : State) (rs1 rs2 : Reg) (off : BitVec 13)

theorem exec_beq : exec (.beq rs1 rs2 off) s =
    if s.unsignedX rs1 = s.unsignedX rs2 then s.jumpTo (s.word (s.pc.toNat + off.toInt)) else .next (s.passed 4) :=
  exec_branch (by decide) rfl (permits_base rfl rfl rfl) (s.compare_eq_regs rs1 rs2)

theorem exec_bne : exec (.bne rs1 rs2 off) s =
    if s.unsignedX rs1 ≠ s.unsignedX rs2 then s.jumpTo (s.word (s.pc.toNat + off.toInt)) else .next (s.passed 4) :=
  exec_branch (by decide) rfl (permits_base rfl rfl rfl) (s.compare_ne_regs rs1 rs2)

theorem exec_blt : exec (.blt rs1 rs2 off) s =
    if s.signedX rs1 < s.signedX rs2 then s.jumpTo (s.word (s.pc.toNat + off.toInt)) else .next (s.passed 4) :=
  exec_branch (by decide) rfl (permits_base rfl rfl rfl) (s.compare_lt_regs rs1 rs2)

theorem exec_bge : exec (.bge rs1 rs2 off) s =
    if s.signedX rs2 ≤ s.signedX rs1 then s.jumpTo (s.word (s.pc.toNat + off.toInt)) else .next (s.passed 4) :=
  exec_branch (by decide) rfl (permits_base rfl rfl rfl) (s.compare_ge_regs rs1 rs2)

theorem exec_bltu : exec (.bltu rs1 rs2 off) s =
    if s.unsignedX rs1 < s.unsignedX rs2 then s.jumpTo (s.word (s.pc.toNat + off.toInt)) else .next (s.passed 4) :=
  exec_branch (by decide) rfl (permits_base rfl rfl rfl) (s.compare_ltu_regs rs1 rs2)

theorem exec_bgeu : exec (.bgeu rs1 rs2 off) s =
    if s.unsignedX rs2 ≤ s.unsignedX rs1 then s.jumpTo (s.word (s.pc.toNat + off.toInt)) else .next (s.passed 4) :=
  exec_branch (by decide) rfl (permits_base rfl rfl rfl) (s.compare_geu_regs rs1 rs2)

variable {s}

/-- The compressed forms that are in C alone pass the gate with C. -/
theorem permits_c {i : Instr} (hC : s.cfg.extC = true) (hext : i.ext = .c) (hxlen : i.xlenOnly = none)
    (hshamt : i.shamt = 0) : s.permits i = true := by
  refine State.permits_of_has ?_ hxlen hshamt ?_ <;> rw [hext]
  · exact hC
  · rfl

theorem unsignedX_zero : s.unsignedX 0 = 0 := by
  rw [State.unsignedX, State.getX_zero]
  rfl

theorem exec_cBeqz (hC : s.cfg.extC = true) (r : CReg) (coff : BitVec 9) : exec (.cBeqz r coff) s =
    if s.unsignedX (creg r) = 0 then s.jumpTo (s.word (s.pc.toNat + coff.toInt)) else .next (s.passed 2) := by
  refine exec_branch (by decide) rfl (permits_c hC rfl rfl rfl) ?_
  rw [s.compare_eq_regs, unsignedX_zero]

theorem exec_cBnez (hC : s.cfg.extC = true) (r : CReg) (coff : BitVec 9) : exec (.cBnez r coff) s =
    if s.unsignedX (creg r) ≠ 0 then s.jumpTo (s.word (s.pc.toNat + coff.toInt)) else .next (s.passed 2) := by
  refine exec_branch (by decide) rfl (permits_c hC rfl rfl rfl) ?_
  rw [s.compare_ne_regs, unsignedX_zero]

end

/-- Settles O26. -/
theorem branchesComplete : Obligations.BranchesComplete := by
  unfold Obligations.BranchesComplete
  intro s rs1 rs2 off r coff target ctarget
  refine ⟨fun hgood => ?taken, fun h => ?_, fun h => ?_, fun h => ?_, fun h => ?_, fun h => ?_, fun h => ?_,
    fun hC => ?compressed⟩
  case taken =>
    have hjump := State.jumpTo_of_good hgood
    refine ⟨fun h => ?_, fun h => ?_, fun h => ?_, fun h => ?_, fun h => ?_, fun h => ?_⟩
    · rw [exec_beq, if_pos h, hjump]
    · rw [exec_bne, if_pos h, hjump]
    · rw [exec_blt, if_pos h, hjump]
    · rw [exec_bge, if_pos h, hjump]
    · rw [exec_bltu, if_pos h, hjump]
    · rw [exec_bgeu, if_pos h, hjump]
  case compressed =>
    refine ⟨fun hgood h => ?_, fun hgood h => ?_, fun h => ?_, fun h => ?_⟩
    · rw [exec_cBeqz hC, if_pos h, State.jumpTo_of_good hgood]
    · rw [exec_cBnez hC, if_pos h, State.jumpTo_of_good hgood]
    · rw [exec_cBeqz hC, if_neg h]
    · rw [exec_cBnez hC, if_neg (not_not_intro h)]
  · rw [exec_beq, if_neg h]
  · rw [exec_bne, if_neg (not_not_intro h)]
  · rw [exec_blt, if_neg (not_lt.2 h)]
  · rw [exec_bge, if_neg (not_le.2 h)]
  · rw [exec_bltu, if_neg (not_lt.2 h)]
  · rw [exec_bgeu, if_neg (not_le.2 h)]

section

variable (s : State) (rd rs1 : Reg)

theorem exec_jal (off : BitVec 21) :
    exec (.jal rd off) s = s.jumpLink 4 rd (s.word (s.pc.toNat + off.toInt)) := by
  rw [← s.norm_pc_add_sext off (by decide)]
  exact State.gate_of_permits (permits_base rfl rfl rfl) _

theorem exec_jalr (off : BitVec 12) :
    exec (.jalr rd rs1 off) s = s.jumpLink 4 rd (s.address rs1 off.toInt &&& ~~~ 1#64) := by
  rw [State.address_eq_ea_sext]
  exact State.gate_of_permits (permits_base rfl rfl rfl) _

/-- The target of a register jump without a displacement. -/
theorem State.indirect_zero : s.indirect rs1 0 = s.getX rs1 &&& ~~~ 1#64 := by
  rw [State.indirect, BitVec.ofNat_eq_ofNat, BitVec.add_zero, State.norm_getX]

/-- With C every even address is a target. -/
theorem badTarget_even {s : State} (hC : s.cfg.extC = true) (v : Word) : s.badTarget (v &&& ~~~ 1#64) = false := by
  rw [State.badTarget_eq_false_iff, if_pos hC, and_not_one_toNat]
  omega

end

/-- Settles O27. -/
theorem jumpsComplete : Obligations.JumpsComplete := by
  unfold Obligations.JumpsComplete
  intro s rd rs1 off ioff coff target ctarget itarget rtarget
  have hcoff : s.norm (s.pc + s.sext coff) = ctarget := s.norm_pc_add_sext coff (by decide)
  refine ⟨fun h => ?_, fun h => ?_, fun hC => ⟨fun h => ?_, fun h hx => ?_, ?_, ?_⟩⟩
  · rw [exec_jal, State.jumpLink_of_good h]
  · rw [exec_jalr, State.jumpLink_of_good h]
  · change s.gate _ (s.jumpLink 2 0 (s.norm (s.pc + s.sext coff))) = _
    rw [State.gate_of_permits (permits_c hC rfl rfl rfl), hcoff, State.jumpLink_of_good h, State.linked_zero]
  · change s.gate _ (s.jumpLink 2 1 (s.norm (s.pc + s.sext coff))) = _
    have hp : s.permits (.cJal coff) = true :=
      State.permits_of_conditions hC (fun x hxlen => hx.trans (Option.some.inj hxlen)) rfl fun h => nomatch h
    rw [State.gate_of_permits hp, hcoff, State.jumpLink_of_good h]
  · change s.gate _ (s.jumpLink 2 0 (s.indirect rs1 0)) = _
    rw [State.gate_of_permits (permits_c hC rfl rfl rfl), State.indirect_zero,
      State.jumpLink_of_good (badTarget_even hC _), State.linked_zero]
  · change s.gate _ (s.jumpLink 2 1 (s.indirect rs1 0)) = _
    rw [State.gate_of_permits (permits_c hC rfl rfl rfl), State.indirect_zero,
      State.jumpLink_of_good (badTarget_even hC _)]

/-! ## The bytes of a load as a number -/

/-- The byte at the address is the least significant (R72, R73). -/
theorem State.leNat_succ (s : State) (a : Word) (n : Nat) :
    s.leNat a (n + 1) = (s.byte a).toNat + 256 * s.leNat (a + 1) n := by
  have hstep : ∀ i, (s.byte (a + BitVec.ofNat 64 (i + 1))).toNat * 2 ^ (8 * (i + 1)) =
      256 * ((s.byte (a + 1 + BitVec.ofNat 64 i)).toNat * 2 ^ (8 * i)) := by
    intro i
    rw [add_one_add_ofNat, Nat.mul_succ, Nat.pow_add]
    ring
  rw [State.leNat, List.range_succ_eq_map, List.map_cons, List.map_map, List.sum_cons, State.leNat,
    ← List.sum_map_mul_left]
  simp [Function.comp_def, hstep]

theorem State.leNat_lt (s : State) (a : Word) (n : Nat) : s.leNat a n < 2 ^ (8 * n) := by
  induction n generalizing a with
  | zero => simp [State.leNat]
  | succ n ih =>
    have hbyte := (s.byte a).isLt
    have hrest := ih (a + 1)
    rw [s.leNat_succ, Nat.mul_succ, Nat.pow_add]
    omega

/-- Up to eight bytes fit the container of a loaded value. -/
theorem State.readBytes_toNat (s : State) (a : Word) {n : Nat} (hn : n ≤ 8) :
    (s.readBytes a n).toNat = s.leNat a n := by
  induction n generalizing a with
  | zero => simp [State.readBytes, State.leNat]
  | succ n ih =>
    have hbyte := (s.byte a).isLt
    have hlt : s.leNat (a + 1) n * 2 ^ 8 < 2 ^ 64 :=
      calc s.leNat (a + 1) n * 2 ^ 8 < 2 ^ (8 * n) * 2 ^ 8 := Nat.mul_lt_mul_of_pos_right (s.leNat_lt _ _) (by decide)
        _ = 2 ^ (8 * n + 8) := (Nat.pow_add ..).symm
        _ ≤ 2 ^ 64 := Nat.pow_le_pow_right (by decide) (by omega)
    have hor := Nat.shiftLeft_add_eq_or_of_lt hbyte (s.leNat (a + 1) n)
    rw [State.readBytes, BitVec.toNat_or, BitVec.toNat_shiftLeft, ih (a + 1) (by omega), Nat.shiftLeft_eq,
      Nat.mod_eq_of_lt hlt, BitVec.toNat_setWidth_of_le (by decide), ← Nat.shiftLeft_eq, ← hor, s.leNat_succ,
      Nat.shiftLeft_eq]
    omega

section

variable {s : State} {a : Word} {n m : Nat}

/-- The bytes of a value of m bits. -/
theorem State.readBytes_setWidth_toNat (s : State) (a : Word) (hm : m = 8 * n) (hn : n ≤ 8) :
    ((s.readBytes a n).setWidth m).toNat = s.leNat a n := by
  subst hm
  rw [BitVec.toNat_setWidth, s.readBytes_toNat a hn]
  exact Nat.mod_eq_of_lt (s.leNat_lt a n)

theorem State.norm_signed (hm : m = 8 * n) (h0 : 0 < m) (hn : n ≤ 8) :
    s.norm (signed m (s.readBytes a n)) = s.norm (s.word (twos m (s.leNat a n))) := by
  rw [← s.readBytes_setWidth_toNat a hm hn, twos_toInt h0, s.norm_word]
  exact s.sext_eq_word _ (by omega)

theorem State.norm_unsigned (hm : m = 8 * n) (hn : n ≤ 8) :
    s.norm (unsigned m (s.readBytes a n)) = s.norm (s.word (s.leNat a n)) := by
  rw [← s.readBytes_setWidth_toNat a hm hn, s.norm_word]
  exact s.zext_eq_word _ (by omega)

/-- The low bits of a loaded value as a bit vector. -/
theorem State.readBytes_setWidth_eq (s : State) (a : Word) (hm : m = 8 * n) (hn : n ≤ 8) :
    (s.readBytes a n).setWidth m = BitVec.ofNat m (s.leNat a n) := by
  rw [← s.readBytes_setWidth_toNat a hm hn, BitVec.ofNat_toNat, BitVec.setWidth_eq]

/-! ## Accesses that complete -/

theorem State.completes.aligned_or {k : Access} (h : s.completes k a n) :
    s.aligned a n = true ∨ s.cfg.misaligned = .split :=
  h.2.imp_left (s.multipleOf_iff a n).1

theorem exec_loadX {i : Instr} {len : Word} {rd : Reg} {b v : Word} {extend : Word → Word}
    (he : exec i s = s.gate i (s.loadX len rd b n extend)) (hp : s.permits i = true) (hab : a = b)
    (hc : s.completes .load a n) (h : s.norm (extend (s.readBytes a n)) = s.norm v) :
    exec i s = .next (s.wrote len rd v) := by
  subst hab
  rw [he, State.gate_of_permits hp, State.loadX, State.load_of_granted hc.1 hc.aligned_or, State.result,
    State.setX_congr h]
  rfl

theorem exec_storeV {i : Instr} {len : Word} {b v : Word} (he : exec i s = s.gate i (s.storeV len b n v))
    (hp : s.permits i = true) (hab : a = b) (hc : s.completes .store a n) :
    exec i s = .next (s.stored len a n v) := by
  subst hab
  rw [he, State.gate_of_permits hp, State.storeV, State.store_of_granted hc.1 hc.aligned_or]
  rfl

theorem exec_loadS {i : Instr} {len : Word} {rd : FReg} {b : Word} (he : exec i s = s.gate i (s.loadS len rd b))
    (hp : s.permits i = true) (hab : a = b) (hc : s.completes .load a 4) :
    exec i s = .next ((s.setS rd (BitVec.ofNat 32 (s.leNat a 4))).passed len) := by
  subst hab
  rw [he, State.gate_of_permits hp, State.loadS, State.load_of_granted hc.1 hc.aligned_or,
    s.readBytes_setWidth_eq a (m := 32) (n := 4) rfl (by decide)]
  rfl

theorem exec_loadD {i : Instr} {len : Word} {rd : FReg} {b : Word} (he : exec i s = s.gate i (s.loadD len rd b))
    (hp : s.permits i = true) (hab : a = b) (hc : s.completes .load a 8) :
    exec i s = .next ((s.setF rd (BitVec.ofNat 64 (s.leNat a 8))).passed len) := by
  subst hab
  have hread := s.readBytes_setWidth_eq a (m := 64) (n := 8) rfl (by decide)
  rw [BitVec.setWidth_eq] at hread
  rw [he, State.gate_of_permits hp, State.loadD, State.load_of_granted hc.1 hc.aligned_or, hread]
  rfl

end

/-- Settles O29. -/
theorem integerLoadsComplete : Obligations.IntegerLoadsComplete := by
  unfold Obligations.IntegerLoadsComplete
  intro s rd rs1 off d r u7 u8 u9 a
  have ha : a = s.ea rs1 (s.sext off) := s.address_eq_ea_sext rs1 off
  have hz : ∀ {n : Nat} (i : Reg) (u : BitVec n), n ≤ 64 → s.address i u.toNat = s.ea i (s.zext u) := fun i u hn =>
    s.address_eq_ea_zext i u hn
  have h64 : ∀ i : Instr, s.cfg.xlen = .rv64 → i.ext = .base → i.xlenOnly = some .rv64 → s.permits i = true :=
    fun i hx hext hxlen => State.permits_of_rv64 hx (by rw [hext]; rfl) (.inl hxlen) (by rw [hext]; rfl)
  refine ⟨fun h => ⟨exec_loadX rfl (permits_base rfl rfl rfl) ha h ?_, exec_loadX rfl (permits_base rfl rfl rfl) ha h ?_⟩,
    fun h => ⟨exec_loadX rfl (permits_base rfl rfl rfl) ha h ?_, exec_loadX rfl (permits_base rfl rfl rfl) ha h ?_⟩,
    fun h => ⟨exec_loadX rfl (permits_base rfl rfl rfl) ha h ?_, fun hx => exec_loadX rfl (h64 _ hx rfl rfl) ha h ?_⟩,
    fun h hx => exec_loadX rfl (h64 _ hx rfl rfl) ha h ?_,
    fun hC => ⟨fun h => exec_loadX rfl (permits_c hC rfl rfl rfl) (hz _ u7 (by decide)) h ?_,
      fun h => exec_loadX rfl (permits_c hC rfl rfl rfl) (hz _ u8 (by decide)) h ?_,
      fun hx h => exec_loadX rfl (State.permits_of_rv64 hx hC (.inl rfl) rfl) (hz _ u8 (by decide)) h ?_,
      fun hx h => exec_loadX rfl (State.permits_of_rv64 hx hC (.inl rfl) rfl) (hz _ u9 (by decide)) h ?_⟩⟩
  · exact State.norm_signed rfl (by decide) (by decide)
  · exact State.norm_unsigned rfl (by decide)
  · exact State.norm_signed rfl (by decide) (by decide)
  · exact State.norm_unsigned rfl (by decide)
  · exact State.norm_signed rfl (by decide) (by decide)
  · exact State.norm_unsigned rfl (by decide)
  · exact State.norm_unsigned rfl (by decide)
  · exact State.norm_signed rfl (by decide) (by decide)
  · exact State.norm_signed rfl (by decide) (by decide)
  · exact State.norm_unsigned rfl (by decide)
  · exact State.norm_unsigned rfl (by decide)

/-- Settles O30. -/
theorem integerStoresComplete : Obligations.IntegerStoresComplete := by
  unfold Obligations.IntegerStoresComplete
  intro s rs2 rs1 off v r u7 u8 u9 a
  have ha : a = s.ea rs1 (s.sext off) := s.address_eq_ea_sext rs1 off
  have hz : ∀ {n : Nat} (i : Reg) (u : BitVec n), n ≤ 64 → s.address i u.toNat = s.ea i (s.zext u) := fun i u hn =>
    s.address_eq_ea_zext i u hn
  exact ⟨fun h => exec_storeV rfl (permits_base rfl rfl rfl) ha h, fun h => exec_storeV rfl (permits_base rfl rfl rfl) ha h,
    fun h => exec_storeV rfl (permits_base rfl rfl rfl) ha h,
    fun h hx => exec_storeV rfl (State.permits_of_rv64 hx rfl (.inl rfl) rfl) ha h,
    fun hC => ⟨fun h => exec_storeV rfl (permits_c hC rfl rfl rfl) (hz _ u7 (by decide)) h,
      fun h => exec_storeV rfl (permits_c hC rfl rfl rfl) (hz _ u8 (by decide)) h,
      fun hx h => exec_storeV rfl (State.permits_of_rv64 hx hC (.inl rfl) rfl) (hz _ u8 (by decide)) h,
      fun hx h => exec_storeV rfl (State.permits_of_rv64 hx hC (.inl rfl) rfl) (hz _ u9 (by decide)) h⟩⟩

section

variable {s : State} {i : Instr}

theorem State.singleOn.fpOn (h : s.singleOn) : s.fpOn = true := by
  obtain ⟨hF, hfs⟩ := h
  rw [State.fpOn, hF]
  simpa using hfs

theorem State.doubleOn.fpOn (h : s.doubleOn) : s.fpOn = true := by
  obtain ⟨hF, -, hfs⟩ := h
  rw [State.fpOn, hF]
  simpa using hfs

/-- Floating-point instructions of every XLEN pass the gate when floating point is on. -/
theorem permits_single (h : s.singleOn) (hext : i.ext = .f) (hxlen : i.xlenOnly = none) (hshamt : i.shamt = 0) :
    s.permits i = true :=
  State.permits_of_conditions (by rw [hext]; exact h.1) (by simp [hxlen]) hshamt fun _ => h.fpOn

theorem permits_double (h : s.doubleOn) (hext : i.ext = .d) (hxlen : i.xlenOnly = none) (hshamt : i.shamt = 0) :
    s.permits i = true :=
  State.permits_of_conditions (by rw [hext]; simp [Params.has, h.1, h.2.1]) (by simp [hxlen]) hshamt fun _ => h.fpOn

theorem permits_compressed_single (h : s.singleOn) (hC : s.cfg.extC = true) (hx : s.cfg.xlen = .rv32)
    (hext : i.ext = .cf) (hxlen : i.xlenOnly = some .rv32) (hshamt : i.shamt = 0) : s.permits i = true :=
  State.permits_of_conditions (by rw [hext]; simp [Params.has, hC, h.1]) (by simp [hxlen, hx]) hshamt fun _ => h.fpOn

theorem permits_compressed_double (h : s.doubleOn) (hC : s.cfg.extC = true) (hext : i.ext = .cd)
    (hxlen : i.xlenOnly = none) (hshamt : i.shamt = 0) : s.permits i = true :=
  State.permits_of_conditions (by rw [hext]; simp [Params.has, hC, h.1, h.2.1]) (by simp [hxlen]) hshamt
    fun _ => h.fpOn

end

/-- Settles O31. -/
theorem floatLoadsAndStoresComplete : Obligations.FloatLoadsAndStoresComplete := by
  unfold Obligations.FloatLoadsAndStoresComplete
  intro s rd rs2 rs1 off d r u7 u8 u9 a single double
  have ha : a = s.ea rs1 (s.sext off) := s.address_eq_ea_sext rs1 off
  have hz : ∀ {n : Nat} (i : Reg) (u : BitVec n), n ≤ 64 → s.address i u.toNat = s.ea i (s.zext u) := fun i u hn =>
    s.address_eq_ea_zext i u hn
  refine ⟨fun hS => ⟨fun h => exec_loadS rfl (permits_single hS rfl rfl rfl) ha h,
      fun h => exec_storeV rfl (permits_single hS rfl rfl rfl) ha h, fun hC hx => ?single⟩,
    fun hD => ⟨fun h => exec_loadD rfl (permits_double hD rfl rfl rfl) ha h,
      fun h => exec_storeV rfl (permits_double hD rfl rfl rfl) ha h, fun hC => ?double⟩⟩
  case single =>
    have hp := fun i => permits_compressed_single (i := i) hS hC hx
    exact ⟨fun h => exec_loadS rfl (hp _ rfl rfl rfl) (hz _ u7 (by decide)) h,
      fun h => exec_loadS rfl (hp _ rfl rfl rfl) (hz _ u8 (by decide)) h,
      fun h => exec_storeV rfl (hp _ rfl rfl rfl) (hz _ u7 (by decide)) h,
      fun h => exec_storeV rfl (hp _ rfl rfl rfl) (hz _ u8 (by decide)) h⟩
  case double =>
    have hp := fun i => permits_compressed_double (i := i) hD hC
    exact ⟨fun h => exec_loadD rfl (hp _ rfl rfl rfl) (hz _ u8 (by decide)) h,
      fun h => exec_loadD rfl (hp _ rfl rfl rfl) (hz _ u9 (by decide)) h,
      fun h => exec_storeV rfl (hp _ rfl rfl rfl) (hz _ u8 (by decide)) h,
      fun h => exec_storeV rfl (hp _ rfl rfl rfl) (hz _ u9 (by decide)) h⟩

/-! ## Accesses that trap -/

section

variable {s : State} {i : Instr} {a : Word} {n : Nat}

/-- Every load is the access of `State.loads`. -/
theorem exec_of_loads (h : s.loads i = some (a, n)) : ∃ k, exec i s = s.gate i (s.load a n k) := by
  cases i
  case lb | lbu | ld | lh | lhu | lw | lwu | flw | fld =>
    cases h
    rw [State.address_eq_ea_sext]
    exact ⟨_, rfl⟩
  case cLd | cLdsp | cLw | cLwsp | cFlw | cFlwsp | cFld | cFldsp =>
    cases h
    rw [State.address_eq_ea_zext _ _ _ (by decide)]
    exact ⟨_, rfl⟩
  all_goals cases h

/-- Every store is the access of `State.stores`, of the value `State.storeData`. -/
theorem exec_of_stores (h : s.stores i = some (a, n)) : ∃ k, exec i s = s.gate i (s.store a n (s.storeData i) k) := by
  cases i
  case sb | sd | sh | sw | fsw | fsd =>
    cases h
    rw [State.address_eq_ea_sext]
    exact ⟨_, rfl⟩
  case cSd | cSdsp | cSw | cSwsp | cFsw | cFswsp | cFsd | cFsdsp =>
    cases h
    rw [State.address_eq_ea_zext _ _ _ (by decide)]
    exact ⟨_, rfl⟩
  all_goals cases h

/-- sc makes the checks of an AMO, whether it stores or not. -/
theorem State.storeConditional_eq (s : State) (rd rs1 rs2 : Reg) (n : Nat) :
    ∃ r d, s.storeConditional rd rs1 rs2 n = s.atomicallyOr (s.getX rs1) n r d := by
  by_cases hs : s.scSucceeds (s.getX rs1) n = true
  · exact ⟨_, _, if_pos hs⟩
  · exact ⟨_, _, if_neg hs⟩

/-- Every sc and AMO is the access of `State.atomics`. -/
theorem exec_of_atomics (h : s.atomics i = some (a, n)) :
    ∃ r d, exec i s = s.gate i (s.atomicallyOr a n r d) := by
  cases i
  case scW aq rl rd rs1 rs2 =>
    cases h
    obtain ⟨r, d, heq⟩ := s.storeConditional_eq rd rs1 rs2 4
    exact ⟨r, d, congrArg (s.gate _) heq⟩
  case scD aq rl rd rs1 rs2 =>
    cases h
    obtain ⟨r, d, heq⟩ := s.storeConditional_eq rd rs1 rs2 8
    exact ⟨r, d, congrArg (s.gate _) heq⟩
  case amoaddW | amoandW | amomaxW | amomaxuW | amominW | amominuW | amoorW | amoswapW | amoxorW | amoaddD | amoandD |
      amomaxD | amomaxuD | amominD | amominuD | amoorD | amoswapD | amoxorD =>
    cases h
    exact ⟨_, _, rfl⟩
  all_goals cases h

theorem exec_lrW (aq rl : Bool) (rd rs1 : Reg) :
    exec (.lrW aq rl rd rs1) s = s.gate (.lrW aq rl rd rs1) (s.reservedLoad (s.getX rs1) 4 (fun v =>
      { s with reservation := some ⟨s.getX rs1, 4⟩ }.result 4 rd (signed 32 v))) := rfl

theorem exec_lrD (aq rl : Bool) (rd rs1 : Reg) :
    exec (.lrD aq rl rd rs1) s = s.gate (.lrD aq rl rd rs1) (s.reservedLoad (s.getX rs1) 8 (fun v =>
      { s with reservation := some ⟨s.getX rs1, 8⟩ }.result 4 rd (unsigned 64 v))) := rfl

theorem State.store_of_misaligned (ha : s.aligned a n ≠ true) (ht : s.cfg.misaligned = .trap) (v : Word)
    (k : State → Result) : s.store a n v k = s.raise .storeAddressMisaligned a := by
  rw [State.store, if_neg ha, ht]

theorem State.reservedLoad_of_misaligned (ha : s.aligned a n ≠ true) (k : Word → Result) :
    s.reservedLoad a n k = s.raise .loadAddressMisaligned a := by
  rw [State.reservedLoad, if_neg ha]

end

/-- Settles O28. -/
theorem misalignedAddressesTrap : Obligations.MisalignedAddressesTrap := by
  unfold Obligations.MisalignedAddressesTrap
  intro s
  refine ⟨fun rs1 rs2 off hbad => ?branches, fun rd off hbad => ?_, fun rd rs1 off hbad => ?_,
    fun i a n hp hmis => ?accesses, fun aq rl rd rs1 hA => ?reserved⟩
  case branches =>
    have hjump := State.jumpTo_of_bad hbad
    refine ⟨fun h => ?_, fun h => ?_, fun h => ?_, fun h => ?_, fun h => ?_, fun h => ?_⟩
    · rw [exec_beq, if_pos h, hjump]
    · rw [exec_bne, if_pos h, hjump]
    · rw [exec_blt, if_pos h, hjump]
    · rw [exec_bge, if_pos h, hjump]
    · rw [exec_bltu, if_pos h, hjump]
    · rw [exec_bgeu, if_pos h, hjump]
  · rw [exec_jal, State.jumpLink_of_bad hbad]
  · rw [exec_jalr, State.jumpLink_of_bad hbad]
  case accesses =>
    have ha : s.aligned a n ≠ true := fun h => hmis ((s.multipleOf_iff a n).2 h)
    refine ⟨fun h ht => ?_, fun h ht => ?_, fun h => ?_⟩
    · obtain ⟨k, he⟩ := exec_of_loads h
      rw [he, State.gate_of_permits hp, State.load_of_misaligned (by simp [ha, ht])]
    · obtain ⟨k, he⟩ := exec_of_stores h
      rw [he, State.gate_of_permits hp, State.store_of_misaligned ha ht]
    · obtain ⟨r, d, he⟩ := exec_of_atomics h
      rw [he, State.gate_of_permits hp, State.atomicallyOr_of_misaligned ha]
  case reserved =>
    have hmis : ∀ n, ¬ s.multipleOf (s.getX rs1) n → s.aligned (s.getX rs1) n ≠ true := fun n h ha =>
      h ((s.multipleOf_iff _ n).2 ha)
    refine ⟨fun h => ?_, fun hx h => ?_⟩
    · rw [exec_lrW, State.gate_of_permits (State.permits_of_has (i := .lrW aq rl rd rs1) hA rfl rfl rfl),
        State.reservedLoad_of_misaligned (hmis 4 h)]
    · rw [exec_lrD, State.gate_of_permits (State.permits_of_rv64 (i := .lrD aq rl rd rs1) hx hA (.inl rfl) rfl),
        State.reservedLoad_of_misaligned (hmis 8 h)]

/-- Settles O32. -/
theorem forbiddenAccessesTrap : Obligations.ForbiddenAccessesTrap := by
  unfold Obligations.ForbiddenAccessesTrap
  intro s i a n hp
  have hal : s.multipleOf a n → s.aligned a n = true := (s.multipleOf_iff a n).1
  have hmis : ¬ s.multipleOf a n → s.aligned a n ≠ true := fun h ha => h ((s.multipleOf_iff a n).2 ha)
  refine ⟨fun h hi => ?_, fun h aq rl rd rs1 ha hi => ?_, fun h hi => ?_, fun h hi => ?_,
    fun k hk h hs hg hf hi => ?_, fun k hk h hs hg hf hi => ?_⟩
  · obtain ⟨k, he⟩ := exec_of_loads hi
    rw [he, State.gate_of_permits hp, State.load_of_forbidden (hal h.1) h.2]
  · subst ha
    rcases hi with ⟨rfl, rfl⟩ | ⟨rfl, rfl⟩
    · rw [exec_lrW, State.gate_of_permits hp, State.reservedLoad_of_forbidden (hal h.1) h.2]
    · rw [exec_lrD, State.gate_of_permits hp, State.reservedLoad_of_forbidden (hal h.1) h.2]
  · obtain ⟨k, he⟩ := exec_of_stores hi
    rw [he, State.gate_of_permits hp, State.store_of_forbidden (hal h.1) h.2]
  · obtain ⟨r, d, he⟩ := exec_of_atomics hi
    rw [he, State.gate_of_permits hp, State.atomicallyOr_of_forbidden (hal h.1) h.2]
  · obtain ⟨c, he⟩ := exec_of_loads hi
    rw [he, State.gate_of_permits hp, State.load_of_split_forbidden (hmis h) hs hk hg hf]
  · obtain ⟨c, he⟩ := exec_of_stores hi
    rw [he, State.gate_of_permits hp, State.store_of_split_forbidden (hmis h) hs hk hg hf]

end Sys2Proof.Machine
end

section
/-!
PROOFS about instructions that the configuration lacks (O44), the rounding mode (O45) and the atomics (O47, O48).
-/
namespace Sys2Proof.Machine

open Sys2Proof

/-! ## The gate and the rounding mode -/

section

variable {s : State} {i : Instr}

/-- Every meaning stands behind the gate of its instruction. -/
theorem exec_gate (s : State) (i : Instr) : ∃ r, exec i s = s.gate i r := by
  cases i
  all_goals exact ⟨_, rfl⟩

theorem exec_of_not_permits (h : s.permits i = false) :
    exec i s = s.raise .illegalInstruction (encode i).value := by
  obtain ⟨r, he⟩ := exec_gate s i
  rw [he, State.gate_of_not_permits h]
  rfl

/-- Every instruction with an rm field does what it does in its rounding mode. -/
theorem exec_rounded {rm : BitVec 3} (h : i.rm = some rm) : ∃ k, exec i s = s.gate i (s.rounded i rm k) := by
  cases i
  case faddS | fcvtLS | fcvtLuS | fcvtSL | fcvtSLu | fcvtSW | fcvtSWu | fcvtWS | fcvtWuS | fdivS | fmaddS | fmsubS |
      fmulS | fnmaddS | fnmsubS | fsqrtS | fsubS | faddD | fcvtDL | fcvtDLu | fcvtDS | fcvtDW | fcvtDWu | fcvtLD |
      fcvtLuD | fcvtSD | fcvtWD | fcvtWuD | fdivD | fmaddD | fmsubD | fmulD | fnmaddD | fnmsubD | fsqrtD | fsubD =>
    cases h
    exact ⟨_, rfl⟩
  all_goals cases h

end

/-- Settles O44. -/
theorem unavailableInstructionsAreIllegal : Obligations.UnavailableInstructionsAreIllegal := by
  unfold Obligations.UnavailableInstructionsAreIllegal
  intro s i
  refine ⟨fun h => exec_of_not_permits ?_, fun x hx hne => exec_of_not_permits ?_,
    fun hx h => exec_of_not_permits (not_permits_shift rfl ?_), fun hf hfs => exec_of_not_permits ?_⟩
  · simp [State.permits, Params.available, h]
  · simp [State.permits, Params.available, hx, hne]
  · rwa [State.width, hx]
  · simp [State.permits, State.fpOn, hf, hfs]

theorem State.rounding_dynamic (s : State) : s.rounding 7 = Rounding.ofBits s.frm := rfl

/-- frm names no mode that asks for frm again. -/
theorem State.rounding_frm (s : State) : s.rounding s.frm = Rounding.ofBits s.frm := by
  unfold State.rounding
  split <;> rfl

theorem ofBits_eq_none {b : BitVec 3} (h : 5 ≤ b.toNat) : Rounding.ofBits b = none := by
  revert b
  decide

/-- Settles O45. -/
theorem roundingModesSelect : Obligations.RoundingModesSelect := by
  unfold Obligations.RoundingModesSelect
  intro s i rm
  refine ⟨⟨rfl, rfl, rfl, rfl, rfl, rfl, rfl⟩, fun _ => s.rounding_dynamic.trans s.rounding_frm.symm,
    fun h => s.rounding_dynamic.trans (ofBits_eq_none h), fun hrm hnone hp => ?_⟩
  obtain ⟨k, he⟩ := exec_rounded (s := s) hrm
  rw [he, State.gate_of_permits hp, State.rounded_of_none hnone]

/-! ## Atomic memory operations -/

namespace Alu

variable {n : Nat} (a b : BitVec n)

theorem eq_ofNat_toNat : a = BitVec.ofNat n a.toNat := by simp

theorem add_eq_ofNat : add n a b = BitVec.ofNat n (a.toNat + b.toNat) := by
  rw [BitVec.ofNat_add, ← eq_ofNat_toNat, ← eq_ofNat_toNat, add]

theorem and_eq_ofNat : and n a b = BitVec.ofNat n (a.toNat &&& b.toNat) := by
  rw [← BitVec.toNat_and, ← eq_ofNat_toNat, and]

theorem or_eq_ofNat : or n a b = BitVec.ofNat n (a.toNat ||| b.toNat) := by
  rw [← BitVec.toNat_or, ← eq_ofNat_toNat, or]

theorem xor_eq_ofNat : xor n a b = BitVec.ofNat n (a.toNat ^^^ b.toNat) := by
  rw [← BitVec.toNat_xor, ← eq_ofNat_toNat, xor]

theorem min_eq_ofNat (hn : 0 < n) :
    min n a b = BitVec.ofNat n (if twos n a.toNat ≤ twos n b.toNat then a.toNat else b.toNat) := by
  rw [min, twos_toInt hn, twos_toInt hn]
  split <;> exact eq_ofNat_toNat _

theorem max_eq_ofNat (hn : 0 < n) :
    max n a b = BitVec.ofNat n (if twos n a.toNat ≤ twos n b.toNat then b.toNat else a.toNat) := by
  rw [max, twos_toInt hn, twos_toInt hn]
  split <;> exact eq_ofNat_toNat _

theorem minu_eq_ofNat : minu n a b = BitVec.ofNat n (Min.min a.toNat b.toNat) := by
  rw [minu, Nat.min_def]
  split <;> exact eq_ofNat_toNat _

theorem maxu_eq_ofNat : maxu n a b = BitVec.ofNat n (Max.max a.toNat b.toNat) := by
  rw [maxu, Nat.max_def]
  split <;> exact eq_ofNat_toNat _

end Alu

section

variable {s : State} {i : Instr} {rd rs1 rs2 : Reg} {op : (n : Nat) → BitVec n → BitVec n → BitVec n}

/-- What is written to a register depends on its number, whatever was stored before. -/
theorem State.result_writeBytes {a v w x : Word} {n : Nat} (h : s.norm w = s.norm x) :
    (s.writeBytes a n v).result 4 rd w = .next ((s.writeBytes a n v).wrote 4 rd x) := by
  have hnorm : (s.writeBytes a n v).norm w = (s.writeBytes a n v).norm x := by
    rwa [State.norm, State.norm, State.writeBytes_cfg]
  rw [State.result, State.setX_congr hnorm]
  rfl

/-- An AMO of a word, from what its operation computes on the low 32 bits. -/
theorem exec_amoW (he : exec i s = s.gate i (s.amoW rd rs1 rs2 op)) (hp : s.permits i = true)
    (hg : s.grantedAll .atomic (s.getX rs1) 4) (ha : s.multipleOf (s.getX rs1) 4) {f : Nat → Nat → Nat}
    (hop : ∀ t v : BitVec 32, op 32 t v = BitVec.ofNat 32 (f t.toNat v.toNat)) :
    exec i s = .next ((s.writeBytes (s.getX rs1) 4
      (BitVec.ofNat 64 (f (s.leNat (s.getX rs1) 4) (s.unsignedW rs2) % 2 ^ 32))).wrote 4 rd
        (s.word (twos 32 (s.leNat (s.getX rs1) 4)))) := by
  have hval : ((BitVec.ofNat 32 (f (s.leNat (s.getX rs1) 4) (s.unsignedW rs2))).setWidth 64 : Word) =
      BitVec.ofNat 64 (f (s.leNat (s.getX rs1) 4) (s.unsignedW rs2) % 2 ^ 32) := by
    apply BitVec.eq_of_toNat_eq
    simp
  rw [he, State.gate_of_permits hp, State.amoW, State.atomically_of_granted hg ((s.multipleOf_iff _ _).1 ha)]
  simp only [hop, s.readBytes_setWidth_toNat (s.getX rs1) (m := 32) (n := 4) rfl (by decide), ← s.unsignedW_eq, hval]
  exact State.result_writeBytes (State.norm_signed rfl (by decide) (by decide))

/-- An AMO of a doubleword. -/
theorem exec_amoD (he : exec i s = s.gate i (s.amoD rd rs1 rs2 op)) (hp : s.permits i = true)
    (hg : s.grantedAll .atomic (s.getX rs1) 8) (ha : s.multipleOf (s.getX rs1) 8) {f : Nat → Nat → Nat}
    (hop : ∀ t v : BitVec 64, op 64 t v = BitVec.ofNat 64 (f t.toNat v.toNat)) :
    exec i s = .next ((s.writeBytes (s.getX rs1) 8
      (BitVec.ofNat 64 (f (s.leNat (s.getX rs1) 8) (s.unsignedX rs2) % 2 ^ 64))).wrote 4 rd
        (s.word (s.leNat (s.getX rs1) 8))) := by
  have hval : BitVec.ofNat 64 (f (s.leNat (s.getX rs1) 8) (s.unsignedX rs2)) =
      BitVec.ofNat 64 (f (s.leNat (s.getX rs1) 8) (s.unsignedX rs2) % 2 ^ 64) := by
    apply BitVec.eq_of_toNat_eq
    simp
  have hread : s.norm (s.readBytes (s.getX rs1) 8) = s.norm (s.word (s.leNat (s.getX rs1) 8)) := by
    rw [← s.readBytes_toNat _ (by decide), s.norm_eq_setWidth, s.norm_eq_setWidth, s.word_setWidth,
      BitVec.ofInt_natCast, BitVec.ofNat_toNat]
  rw [he, State.gate_of_permits hp, State.amoD, State.atomically_of_granted hg ((s.multipleOf_iff _ _).1 ha)]
  simp only [hop, s.readBytes_toNat (s.getX rs1) (n := 8) (by decide)]
  rw [← State.unsignedX, hval]
  exact State.result_writeBytes hread

/-- What an atomic needs to pass the gate. -/
theorem permits_a (hA : s.cfg.extA = true) (hext : i.ext = .a) (hxlen : i.xlenOnly = none) (hshamt : i.shamt = 0) :
    s.permits i = true :=
  State.permits_of_has (by rw [hext]; exact hA) hxlen hshamt (by rw [hext]; rfl)

theorem permits_a_rv64 (hA : s.cfg.extA = true) (hx : s.cfg.xlen = .rv64) (hext : i.ext = .a)
    (hxlen : i.xlenOnly = some .rv64) : s.permits i = true :=
  State.permits_of_rv64 hx (by rw [hext]; exact hA) (.inl hxlen) (by rw [hext]; rfl)

end

/-- Settles O47. -/
theorem atomicOperationsComplete : Obligations.AtomicOperationsComplete := by
  unfold Obligations.AtomicOperationsComplete
  intro s aq rl rd rs1 rs2 hA a
  refine ⟨fun hg ha => ?word, fun hx hg ha => ?double⟩
  case word =>
    have hp := fun i => permits_a (s := s) (i := i) hA
    refine ⟨?_, ?_, ?_, ?_, ?_, ?_, ?_, ?_, ?_⟩
    · exact exec_amoW (f := (· + ·)) rfl (hp _ rfl rfl rfl) hg ha Alu.add_eq_ofNat
    · exact exec_amoW (f := fun _ v => v) rfl (hp _ rfl rfl rfl) hg ha fun _ v => Alu.eq_ofNat_toNat v
    · exact exec_amoW (f := (· &&& ·)) rfl (hp _ rfl rfl rfl) hg ha Alu.and_eq_ofNat
    · exact exec_amoW (f := (· ||| ·)) rfl (hp _ rfl rfl rfl) hg ha Alu.or_eq_ofNat
    · exact exec_amoW (f := (· ^^^ ·)) rfl (hp _ rfl rfl rfl) hg ha Alu.xor_eq_ofNat
    · exact exec_amoW (f := fun t v => if twos 32 t ≤ twos 32 v then t else v) rfl (hp _ rfl rfl rfl) hg ha
        fun t v => Alu.min_eq_ofNat t v (by decide)
    · exact exec_amoW (f := fun t v => if twos 32 t ≤ twos 32 v then v else t) rfl (hp _ rfl rfl rfl) hg ha
        fun t v => Alu.max_eq_ofNat t v (by decide)
    · exact exec_amoW (f := min) rfl (hp _ rfl rfl rfl) hg ha Alu.minu_eq_ofNat
    · exact exec_amoW (f := max) rfl (hp _ rfl rfl rfl) hg ha Alu.maxu_eq_ofNat
  case double =>
    have hp := fun i => permits_a_rv64 (s := s) (i := i) hA hx
    refine ⟨?_, ?_, ?_, ?_, ?_, ?_, ?_, ?_, ?_⟩
    · exact exec_amoD (f := (· + ·)) rfl (hp _ rfl rfl) hg ha Alu.add_eq_ofNat
    · exact exec_amoD (f := fun _ v => v) rfl (hp _ rfl rfl) hg ha fun _ v => Alu.eq_ofNat_toNat v
    · exact exec_amoD (f := (· &&& ·)) rfl (hp _ rfl rfl) hg ha Alu.and_eq_ofNat
    · exact exec_amoD (f := (· ||| ·)) rfl (hp _ rfl rfl) hg ha Alu.or_eq_ofNat
    · exact exec_amoD (f := (· ^^^ ·)) rfl (hp _ rfl rfl) hg ha Alu.xor_eq_ofNat
    · exact exec_amoD (f := fun t v => if twos 64 t ≤ twos 64 v then t else v) rfl (hp _ rfl rfl) hg ha
        fun t v => Alu.min_eq_ofNat t v (by decide)
    · exact exec_amoD (f := fun t v => if twos 64 t ≤ twos 64 v then v else t) rfl (hp _ rfl rfl) hg ha
        fun t v => Alu.max_eq_ofNat t v (by decide)
    · exact exec_amoD (f := min) rfl (hp _ rfl rfl) hg ha Alu.minu_eq_ofNat
    · exact exec_amoD (f := max) rfl (hp _ rfl rfl) hg ha Alu.maxu_eq_ofNat

/-! ## lr and sc -/

section

variable {s : State} {i : Instr} {rd rs1 rs2 : Reg} {n : Nat}

theorem State.reserved_result {w x : Word} {r : Option Reservation} (h : s.norm w = s.norm x) :
    { s with reservation := r }.result 4 rd w = .next ({ s with reservation := r }.wrote 4 rd x) := by
  have hnorm : { s with reservation := r }.norm w = { s with reservation := r }.norm x := h
  rw [State.result, State.setX_congr hnorm]
  rfl

theorem State.scSucceeds_of_pinned {a : Word} (hr : s.reservation = some ⟨a, n⟩) (hc : s.cfg.scChoice = .pinned) :
    s.scSucceeds a n = true := by
  simp [State.scSucceeds, State.spurious, hr, hc]

theorem State.not_scSucceeds {a : Word} (hr : s.reservation ≠ some ⟨a, n⟩) : s.scSucceeds a n = false := by
  simp [State.scSucceeds, hr]

theorem State.storeConditional_of_succeeding (hs : s.scSucceeds (s.getX rs1) n = true)
    (hg : s.grantedAll .atomic (s.getX rs1) n) (ha : s.aligned (s.getX rs1) n = true) (rd rs2 : Reg) :
    s.storeConditional rd rs1 rs2 n =
      .next ({ s.writeBytes (s.getX rs1) n (s.getX rs2) with reservation := none }.wrote 4 rd 0) :=
  (if_pos hs).trans (State.atomically_of_granted hg ha _)

/-- Granted bytes are not forbidden. -/
theorem State.not_forbidden_of_granted {k : Access} {a : Word} (h : s.granted k a = true) : s.forbidden k a = false := by
  cases hf : s.forbidden k a
  · rfl
  · have hok := (s.checkByte_ok_iff k a).2 h
    rw [(s.checkByte_denied_iff k a).2 hf] at hok
    cases hok

/-- With its reservation an sc stores, or fails. -/
theorem State.storeConditional_cases (hg : s.grantedAll .atomic (s.getX rs1) n)
    (ha : s.aligned (s.getX rs1) n = true) :
    s.storeConditional rd rs1 rs2 n =
        .next ({ s.writeBytes (s.getX rs1) n (s.getX rs2) with reservation := none }.wrote 4 rd 0) ∨
      s.storeConditional rd rs1 rs2 n = .next ({ s with reservation := none }.wrote 4 rd s.cfg.scFailCode) := by
  cases hs : s.scSucceeds (s.getX rs1) n with
  | true => exact .inl (State.storeConditional_of_succeeding hs hg ha rd rs2)
  | false =>
    exact .inr (State.storeConditional_of_failing hs ha (fun k hk => State.not_forbidden_of_granted (hg k hk)) rd rs2)

end

/-- Settles O48. -/
theorem reservationsAreMadeAndUsed : Obligations.ReservationsAreMadeAndUsed := by
  unfold Obligations.ReservationsAreMadeAndUsed
  intro s aq rl rd rs1 rs2 hA a success failure
  have hal : ∀ n, s.multipleOf a n → s.aligned a n = true := fun n => (s.multipleOf_iff a n).1
  have hscW : exec (.scW aq rl rd rs1 rs2) s = s.storeConditional rd rs1 rs2 4 :=
    State.gate_of_permits (permits_a hA rfl rfl rfl) _
  have hscD : s.cfg.xlen = .rv64 → exec (.scD aq rl rd rs1 rs2) s = s.storeConditional rd rs1 rs2 8 := fun hx =>
    State.gate_of_permits (permits_a_rv64 hA hx rfl rfl) _
  refine ⟨fun hg ha => ?_, fun hx hg ha => ?_, fun hg ha => ⟨fun hr hc => ?_, fun _ => ?_⟩, fun hf ha hr => ?_,
    fun hx hg ha => ⟨fun hr hc => ?_, fun _ => ?_⟩, fun hx hf ha hr => ?_⟩
  · rw [exec_lrW, State.gate_of_permits (permits_a hA rfl rfl rfl), State.reservedLoad_of_granted hg (hal 4 ha)]
    exact State.reserved_result (State.norm_signed rfl (by decide) (by decide))
  · rw [exec_lrD, State.gate_of_permits (permits_a_rv64 hA hx rfl rfl), State.reservedLoad_of_granted hg (hal 8 ha)]
    exact State.reserved_result (State.norm_unsigned rfl (by decide))
  · exact hscW.trans (State.storeConditional_of_succeeding (State.scSucceeds_of_pinned hr hc) hg (hal 4 ha) rd rs2)
  · rw [hscW]
    exact State.storeConditional_cases hg (hal 4 ha)
  · exact hscW.trans (State.storeConditional_of_failing (State.not_scSucceeds hr) (hal 4 ha) hf rd rs2)
  · exact (hscD hx).trans
      (State.storeConditional_of_succeeding (State.scSucceeds_of_pinned hr hc) hg (hal 8 ha) rd rs2)
  · rw [hscD hx]
    exact State.storeConditional_cases hg (hal 8 ha)
  · exact (hscD hx).trans (State.storeConditional_of_failing (State.not_scSucceeds hr) (hal 8 ha) hf rd rs2)

end Sys2Proof.Machine
end

section
/-!
PROOFS about what floating-point instructions do with the numeric functions: arithmetic (O49, O50), comparisons and
conversions (O51), boxing (O53).
-/
namespace Sys2Proof.Machine

open Sys2Proof

/-! ## Instructions with an rm field, and without -/

section

variable {s : State} {i : Instr}

/-- With an effective rounding mode the instruction does what it does in that mode. -/
theorem exec_in_mode {rm : BitVec 3} {m : Rounding} {k : Rounding → Result}
    (he : exec i s = s.gate i (s.rounded i rm k)) (hp : s.permits i = true) (hrm : s.rounding rm = some m) :
    exec i s = k m := by
  rw [he, State.gate_of_permits hp, State.rounded_of_some hrm]

theorem exec_permitted {r : Result} (he : exec i s = s.gate i r) (hp : s.permits i = true) : exec i s = r := by
  rw [he, State.gate_of_permits hp]

theorem permits_single_rv64 (h : s.singleOn) (hx : s.cfg.xlen = .rv64) (hext : i.ext = .f)
    (hxlen : i.xlenOnly = some .rv64) (hshamt : i.shamt = 0) : s.permits i = true :=
  State.permits_of_conditions (by rw [hext]; exact h.1) (by simp [hxlen, hx]) hshamt fun _ => h.fpOn

theorem permits_double_rv64 (h : s.doubleOn) (hx : s.cfg.xlen = .rv64) (hext : i.ext = .d)
    (hxlen : i.xlenOnly = some .rv64) (hshamt : i.shamt = 0) : s.permits i = true :=
  State.permits_of_conditions (by rw [hext]; simp [Params.has, h.1, h.2.1]) (by simp [hxlen, hx]) hshamt
    fun _ => h.fpOn

end

/-- Settles O49: each clause is the meaning of its instruction, past the gate and in its rounding mode. -/
theorem singleArithmeticCompletes : Obligations.SingleArithmeticCompletes := by
  unfold Obligations.SingleArithmeticCompletes
  intro s rm m rd rs1 rs2 rs3 hS hrm a b c neg
  have hp := fun i => permits_single (i := i) hS
  refine ⟨(exec_in_mode rfl (hp _ rfl rfl rfl) hrm).trans rfl, (exec_in_mode rfl (hp _ rfl rfl rfl) hrm).trans rfl,
    (exec_in_mode rfl (hp _ rfl rfl rfl) hrm).trans rfl, (exec_in_mode rfl (hp _ rfl rfl rfl) hrm).trans rfl,
    (exec_in_mode rfl (hp _ rfl rfl rfl) hrm).trans rfl, (exec_in_mode rfl (hp _ rfl rfl rfl) hrm).trans rfl,
    (exec_in_mode rfl (hp _ rfl rfl rfl) hrm).trans rfl, (exec_in_mode rfl (hp _ rfl rfl rfl) hrm).trans rfl,
    (exec_in_mode rfl (hp _ rfl rfl rfl) hrm).trans rfl, exec_permitted rfl (hp _ rfl rfl rfl),
    exec_permitted rfl (hp _ rfl rfl rfl), ?_⟩
  exact fun hD => (exec_in_mode rfl (permits_double hD rfl rfl rfl) hrm).trans rfl

/-- Settles O50. -/
theorem doubleArithmeticCompletes : Obligations.DoubleArithmeticCompletes := by
  unfold Obligations.DoubleArithmeticCompletes
  intro s rm m rd rs1 rs2 rs3 hD hrm a b c neg
  have hp := fun i => permits_double (i := i) hD
  refine ⟨(exec_in_mode rfl (hp _ rfl rfl rfl) hrm).trans rfl, (exec_in_mode rfl (hp _ rfl rfl rfl) hrm).trans rfl,
    (exec_in_mode rfl (hp _ rfl rfl rfl) hrm).trans rfl, (exec_in_mode rfl (hp _ rfl rfl rfl) hrm).trans rfl,
    (exec_in_mode rfl (hp _ rfl rfl rfl) hrm).trans rfl, (exec_in_mode rfl (hp _ rfl rfl rfl) hrm).trans rfl,
    (exec_in_mode rfl (hp _ rfl rfl rfl) hrm).trans rfl, (exec_in_mode rfl (hp _ rfl rfl rfl) hrm).trans rfl,
    (exec_in_mode rfl (hp _ rfl rfl rfl) hrm).trans rfl, exec_permitted rfl (hp _ rfl rfl rfl),
    exec_permitted rfl (hp _ rfl rfl rfl), ?_⟩
  exact (exec_in_mode rfl (hp _ rfl rfl rfl) hrm).trans rfl

/-! ## Integer results -/

section

variable (s : State) (rd : Reg)

/-- A result for an x register is its number modulo 2^XLEN. -/
theorem State.resultFlags_eq {r : Word × BitVec 5} {v : Int} (h : s.norm r.1 = s.norm (s.word v)) :
    s.resultFlags rd r = .next (s.wroteI rd v r.2) := by
  rw [State.resultFlags, State.setX_congr h]
  rfl

theorem State.resultFlags_asBit (r : Bool × BitVec 5) :
    s.resultFlags rd (asBit r) = .next (s.wroteI rd (if r.1 then 1 else 0) r.2) := by
  refine s.resultFlags_eq rd (State.norm_eq_norm_word ?_)
  rw [asBit]
  cases r.1 <;> simp

theorem State.resultFlags_asW (r : Int × BitVec 5) :
    s.resultFlags rd (asW r) = .next (s.wroteI rd (twos 32 (r.1 % 2 ^ 32).toNat) r.2) := by
  refine s.resultFlags_eq rd ?_
  have hw : s.word (twos 32 (r.1 % 2 ^ 32).toNat) = s.word (BitVec.ofInt 32 r.1).toInt := State.wordW_eq r.1
  rw [hw, s.norm_word]
  exact s.sext_eq_word (BitVec.ofInt 32 r.1) (by decide)

theorem State.resultFlags_asL (r : Int × BitVec 5) : s.resultFlags rd (asL r) = .next (s.wroteI rd r.1 r.2) := by
  refine s.resultFlags_eq rd (State.norm_eq_norm_word ?_)
  rw [asL, BitVec.toNat_ofInt]
  rcases s.width_eq with hw | hw <;> rw [hw] <;> omega

/-- The low 32 bits of a register, as the conversions read them. -/
theorem State.bits_getX_toInt (i : Reg) : (bits (s.getX i) 0 32).toInt = s.signedW i := by
  rw [s.signedW_eq]
  rfl

theorem State.bits_getX_toNat (i : Reg) : (bits (s.getX i) 0 32).toNat = s.unsignedW i := by
  rw [s.unsignedW_eq]
  rfl

end

/-- Settles O51. -/
theorem comparisonsAndConversionsComplete : Obligations.ComparisonsAndConversionsComplete := by
  unfold Obligations.ComparisonsAndConversionsComplete
  intro s rm m rd rs1 fd f1 f2 hrm truth narrow long
  refine ⟨fun hS => ?single, fun hD => ?double⟩
  case single =>
    have hp := fun i => permits_single (i := i) hS
    refine ⟨?_, ?_, ?_, ?_, ?_, ?_, ?_, fun hx => ?_⟩
    · exact (exec_permitted rfl (hp _ rfl rfl rfl)).trans (s.resultFlags_asBit rd _)
    · exact (exec_permitted rfl (hp _ rfl rfl rfl)).trans (s.resultFlags_asBit rd _)
    · exact (exec_permitted rfl (hp _ rfl rfl rfl)).trans (s.resultFlags_asBit rd _)
    · exact (exec_in_mode rfl (hp _ rfl rfl rfl) hrm).trans (s.resultFlags_asW rd _)
    · exact (exec_in_mode rfl (hp _ rfl rfl rfl) hrm).trans (s.resultFlags_asW rd _)
    · rw [← s.bits_getX_toInt]
      exact (exec_in_mode rfl (hp _ rfl rfl rfl) hrm).trans rfl
    · rw [← s.bits_getX_toNat]
      exact (exec_in_mode rfl (hp _ rfl rfl rfl) hrm).trans rfl
    · have hp64 := fun i => permits_single_rv64 (i := i) hS hx
      rw [s.signedX_rv64 hx]
      exact ⟨(exec_in_mode rfl (hp64 _ rfl rfl rfl) hrm).trans (s.resultFlags_asL rd _),
        (exec_in_mode rfl (hp64 _ rfl rfl rfl) hrm).trans (s.resultFlags_asL rd _),
        (exec_in_mode rfl (hp64 _ rfl rfl rfl) hrm).trans rfl, (exec_in_mode rfl (hp64 _ rfl rfl rfl) hrm).trans rfl⟩
  case double =>
    have hp := fun i => permits_double (i := i) hD
    refine ⟨?_, ?_, ?_, ?_, ?_, ?_, ?_, fun hx => ?_⟩
    · exact (exec_permitted rfl (hp _ rfl rfl rfl)).trans (s.resultFlags_asBit rd _)
    · exact (exec_permitted rfl (hp _ rfl rfl rfl)).trans (s.resultFlags_asBit rd _)
    · exact (exec_permitted rfl (hp _ rfl rfl rfl)).trans (s.resultFlags_asBit rd _)
    · exact (exec_in_mode rfl (hp _ rfl rfl rfl) hrm).trans (s.resultFlags_asW rd _)
    · exact (exec_in_mode rfl (hp _ rfl rfl rfl) hrm).trans (s.resultFlags_asW rd _)
    · rw [← s.bits_getX_toInt]
      exact (exec_in_mode rfl (hp _ rfl rfl rfl) hrm).trans rfl
    · rw [← s.bits_getX_toNat]
      exact (exec_in_mode rfl (hp _ rfl rfl rfl) hrm).trans rfl
    · have hp64 := fun i => permits_double_rv64 (i := i) hD hx
      rw [s.signedX_rv64 hx]
      exact ⟨(exec_in_mode rfl (hp64 _ rfl rfl rfl) hrm).trans (s.resultFlags_asL rd _),
        (exec_in_mode rfl (hp64 _ rfl rfl rfl) hrm).trans (s.resultFlags_asL rd _),
        (exec_in_mode rfl (hp64 _ rfl rfl rfl) hrm).trans rfl, (exec_in_mode rfl (hp64 _ rfl rfl rfl) hrm).trans rfl⟩

/-! ## Boxing -/

section

variable (s : State) (i : FReg)

theorem State.getF_setF_same (w : Word) :
    (s.setF i w).getF i = if s.cfg.extD then w else (w.setWidth 32).setWidth 64 := by
  simp [State.getF, State.setF, State.dirty]

theorem upper_bits_eq_allOnes_iff (w : Word) : bits w 32 32 = BitVec.allOnes 32 ↔ w.toNat / 2 ^ 32 = 0xFFFFFFFF := by
  have hlt := w.isLt
  rw [← BitVec.toNat_inj, bits_toNat, BitVec.toNat_allOnes]
  omega

/-- A single-precision operand with D: the low half of a boxed register, the canonical NaN of another (R29). -/
theorem State.getS_of_extD (hD : s.cfg.extD = true) :
    s.getS i = if (s.getF i).toNat / 2 ^ 32 = 0xFFFFFFFF then (s.getF i).setWidth 32 else canonicalS := by
  simp only [State.getS, hD, Bool.true_and, bne_iff_ne, ne_eq, upper_bits_eq_allOnes_iff, ite_not]

theorem State.getS_of_not_extD (hD : s.cfg.extD = false) : s.getS i = (s.getF i).setWidth 32 := by
  simp [State.getS, hD]

theorem boxed_toNat (v : BitVec 32) : (BitVec.allOnes 32 ++ v).toNat = 0xFFFFFFFF * 2 ^ 32 + v.toNat :=
  append_toNat_32 _ _

end

/-- Settles O53. -/
theorem singlesAreBoxed : Obligations.SinglesAreBoxed := by
  unfold Obligations.SinglesAreBoxed
  intro s i j v w
  have hcfg : ∀ x, (s.setF i x).cfg.extD = s.cfg.extD := fun _ => rfl
  have hboxed : s.cfg.extD = true → (s.setS i v).getF i = BitVec.allOnes 32 ++ v := fun hD => by
    rw [State.setS, State.getF_setF_same, if_pos hD, State.box, if_pos hD]
  refine ⟨?_, rfl, fun h => s.getF_setF_other h w, fun hD => ⟨?_, ?_, fun h => ?_, fun h => ?_⟩, fun hD => ?_⟩
  · have hv := v.isLt
    cases hD : s.cfg.extD with
    | true =>
      have hnat := boxed_toNat v
      rw [State.getS_of_extD (s.setS i v) i hD, hboxed hD, if_pos (by omega)]
      apply BitVec.eq_of_toNat_eq
      rw [BitVec.toNat_setWidth, hnat]
      omega
    | false =>
      rw [State.getS_of_not_extD (s.setS i v) i hD, State.setS, State.getF_setF_same, State.box, hD]
      simp
  · rw [State.getF_setF_same, if_pos hD]
  · rw [hboxed hD, boxed_toNat]
  · rw [State.getS_of_extD _ _ ((hcfg w).trans hD), State.getF_setF_same, if_pos hD, if_pos h, BitVec.toNat_setWidth]
  · rw [State.getS_of_extD _ _ ((hcfg w).trans hD), State.getF_setF_same, if_pos hD, if_neg h]
    rfl
  · rw [State.getS_of_not_extD _ _ ((hcfg w).trans hD), State.getF_setF_same, hD]
    simp

end Sys2Proof.Machine
end

section
/-!
PROOFS about the floating-point formats: how a pattern is read (R400), and the value of a pattern as a function of it.

A pattern without its sign is `k * 2^fracBits + s`, the number s on the scale k above the least. So the values of
neighbouring patterns differ by one unit of that scale, and values increase with patterns, also from one scale to the next
and into the infinity pattern. All of rounding rests on this.
-/
namespace Sys2Proof.Machine

open Sys2Proof

/-! ## The formats -/

/-- The two formats of R400. -/
def Fp.Known (F : Fp.Format) : Prop := F = Fp.single ∨ F = Fp.double

section

variable {F : Fp.Format}

/-- What the proofs use of the widths of the fields. -/
theorem Fp.Known.bounds (hF : Fp.Known F) :
    2 ≤ F.expBits ∧ 2 ≤ F.fracBits ∧ F.fracBits + 2 ≤ 2 ^ (F.expBits - 1) := by
  rcases hF with rfl | rfl <;> decide

theorem Fp.signBit_eq (F : Fp.Format) : F.signBit = 2 ^ F.fracBits * 2 ^ F.expBits := by
  rw [Fp.Format.signBit, Nat.pow_add, Nat.mul_comm]

theorem Fp.fracUnit_pos (F : Fp.Format) : 0 < 2 ^ F.fracBits := Nat.two_pow_pos _

theorem Fp.signBit_pos (F : Fp.Format) : 0 < F.signBit := Nat.two_pow_pos _

theorem Fp.Known.four_le_exp (hF : Fp.Known F) : 4 ≤ 2 ^ F.expBits :=
  Nat.pow_le_pow_right (n := 2) (by decide) hF.bounds.1

theorem Fp.Known.four_le_frac (hF : Fp.Known F) : 4 ≤ 2 ^ F.fracBits :=
  Nat.pow_le_pow_right (n := 2) (by decide) hF.bounds.2.1

/-- The infinity pattern is one exponent below the sign bit. -/
theorem Fp.infPattern_add (F : Fp.Format) : F.infPattern + 2 ^ F.fracBits = F.signBit := by
  have hpos : 1 ≤ 2 ^ F.expBits := Nat.one_le_two_pow
  rw [Fp.Format.infPattern, Fp.Format.expMax, Fp.signBit_eq, ← Nat.succ_mul, Nat.succ_eq_add_one,
    Nat.sub_add_cancel hpos, Nat.mul_comm]

theorem Fp.Known.infPattern_ge (hF : Fp.Known F) : 3 * 2 ^ F.fracBits ≤ F.infPattern := by
  have h4 := hF.four_le_exp
  rw [Fp.Format.infPattern, Fp.Format.expMax]
  exact Nat.mul_le_mul_right _ (by omega)

theorem Fp.infPattern_lt (F : Fp.Format) : F.infPattern < F.signBit := by
  have h := Fp.infPattern_add F
  have hpos := Fp.fracUnit_pos F
  omega

/-- The infinity pattern is even. -/
theorem Fp.Known.infPattern_even (hF : Fp.Known F) : F.infPattern % 2 = 0 := by
  rcases hF with rfl | rfl <;> decide

theorem Fp.Known.nan_bounds (hF : Fp.Known F) : F.infPattern < F.nan ∧ F.nan < F.signBit := by
  rcases hF with rfl | rfl <;> decide

end

/-! ## Reading a pattern -/

section

variable (F : Fp.Format) (a : Nat)

/-- The fraction and the exponent of a pattern are those of its magnitude. -/
theorem Fp.fields_of_magnitude :
    a % 2 ^ F.fracBits = a % F.signBit % 2 ^ F.fracBits ∧
    a / 2 ^ F.fracBits % 2 ^ F.expBits = a % F.signBit / 2 ^ F.fracBits := by
  rw [Fp.signBit_eq, Nat.mod_mul_right_mod, Nat.mod_mul_right_div_self]
  exact ⟨rfl, rfl⟩

variable {F a}

theorem Fp.unpack_eq : Fp.unpack F a =
    if a % F.signBit / 2 ^ F.fracBits = F.expMax then
      if a % F.signBit % 2 ^ F.fracBits = 0 then .inf (Fp.negative F a)
      else .nan (decide (a % F.signBit % 2 ^ F.fracBits < 2 ^ (F.fracBits - 1)))
    else if a % F.signBit / 2 ^ F.fracBits = 0 then .fin (Fp.negative F a) (a % F.signBit % 2 ^ F.fracBits) F.minExp
    else .fin (Fp.negative F a) (a % F.signBit % 2 ^ F.fracBits + 2 ^ F.fracBits)
      (F.minExp + (a % F.signBit / 2 ^ F.fracBits - 1 : Nat)) := by
  obtain ⟨hfrac, hexp⟩ := Fp.fields_of_magnitude F a
  rw [Fp.unpack, hfrac, hexp]
  rfl

theorem Fp.magnitude_lt (F : Fp.Format) (a : Nat) : a % F.signBit < F.signBit := Nat.mod_lt _ (Fp.signBit_pos F)

/-- Below the infinity pattern a pattern is the number `p - k * 2^fracBits` on the scale k. -/
theorem Fp.unpack_of_finite (h : a % F.signBit < F.infPattern) :
    Fp.unpack F a = .fin (Fp.negative F a)
      (a % F.signBit - (a % F.signBit / 2 ^ F.fracBits - 1) * 2 ^ F.fracBits)
      (F.minExp + (a % F.signBit / 2 ^ F.fracBits - 1 : Nat)) := by
  have hpos := Fp.fracUnit_pos F
  have hexp : a % F.signBit / 2 ^ F.fracBits ≠ F.expMax := (Nat.div_lt_of_lt_mul (by rwa [Nat.mul_comm])).ne
  have hsplit := Nat.div_add_mod (a % F.signBit) (2 ^ F.fracBits)
  rw [Fp.unpack_eq, if_neg hexp]
  rw [Nat.mul_comm] at hsplit
  split
  · next h0 =>
    rw [h0, Nat.zero_mul, Nat.zero_add] at hsplit
    rw [h0, hsplit]
    simp
  · next h0 =>
    obtain ⟨k, hk⟩ : ∃ k, a % F.signBit / 2 ^ F.fracBits = k + 1 := Nat.exists_eq_succ_of_ne_zero h0
    rw [hk] at hsplit ⊢
    rw [Nat.succ_mul] at hsplit
    congr 1
    rw [Nat.add_sub_cancel]
    omega

theorem Fp.unpack_of_infinite (h : a % F.signBit = F.infPattern) : Fp.unpack F a = .inf (Fp.negative F a) := by
  rw [Fp.unpack_eq, h, Fp.Format.infPattern, Nat.mul_div_cancel _ (Fp.fracUnit_pos F), Nat.mul_mod_left, if_pos rfl,
    if_pos rfl]

theorem Fp.unpack_of_nan (h : F.infPattern < a % F.signBit) :
    Fp.unpack F a = .nan (decide (a % F.signBit < F.nan)) := by
  have hpos := Fp.fracUnit_pos F
  have hlt := Fp.magnitude_lt F a
  have hadd := Fp.infPattern_add F
  obtain ⟨d, hd⟩ : ∃ d, a % F.signBit = d + F.expMax * 2 ^ F.fracBits :=
    ⟨_, (Nat.sub_add_cancel (show F.expMax * 2 ^ F.fracBits ≤ _ from h.le)).symm⟩
  have hdef : F.infPattern = F.expMax * 2 ^ F.fracBits := rfl
  have hdlt : d < 2 ^ F.fracBits := by omega
  have hnan : F.nan = F.infPattern + 2 ^ (F.fracBits - 1) := rfl
  rw [Fp.unpack_eq, hd, Nat.add_mul_div_right _ _ hpos, Nat.div_eq_of_lt hdlt, Nat.zero_add, if_pos rfl,
    Nat.add_mul_mod_self_right, Nat.mod_eq_of_lt hdlt, if_neg (by omega), hnan, hdef]
  congr 2
  exact propext ⟨fun h => by omega, fun h => by omega⟩

end

/-! ## Values of patterns -/

section

variable (F : Fp.Format)

/-- The scale of a pattern without its sign, and the number on that scale. -/
def Fp.scaleOf (p : Nat) : Nat := p / 2 ^ F.fracBits - 1
def Fp.significand (p : Nat) : Nat := p - Fp.scaleOf F p * 2 ^ F.fracBits

theorem Fp.significand_add (p : Nat) :
    Fp.scaleOf F p * 2 ^ F.fracBits + Fp.significand F p = p := by
  have hle : Fp.scaleOf F p * 2 ^ F.fracBits ≤ p :=
    (Nat.mul_le_mul_right _ (Nat.sub_le _ _)).trans (Nat.div_mul_le_self _ _)
  exact Nat.add_sub_cancel' hle

theorem Fp.significand_bounds (p : Nat) :
    Fp.significand F p < 2 * 2 ^ F.fracBits ∧ (2 ^ F.fracBits ≤ Fp.significand F p ∨ Fp.scaleOf F p = 0) := by
  have hpos := Fp.fracUnit_pos F
  have hsplit := Nat.div_add_mod p (2 ^ F.fracBits)
  have hmod := Nat.mod_lt p hpos
  rw [Nat.mul_comm] at hsplit
  have hadd := Fp.significand_add F p
  have hscale : Fp.scaleOf F p = p / 2 ^ F.fracBits - 1 := rfl
  cases hk : p / 2 ^ F.fracBits with
  | zero =>
    rw [hk] at hscale hsplit
    rw [hscale] at hadd ⊢
    omega
  | succ k =>
    rw [hk] at hscale hsplit
    rw [Nat.succ_mul] at hsplit
    rw [hscale, Nat.add_sub_cancel] at hadd
    omega

theorem Fp.magnitude_eq (p : Nat) :
    Fp.magnitude F p = (Fp.significand F p : ℚ) * 2 ^ (F.minExp + (Fp.scaleOf F p : Int)) := by
  have hsplit := Nat.div_add_mod p (2 ^ F.fracBits)
  rw [Nat.mul_comm] at hsplit
  have hadd := Fp.significand_add F p
  have hscale : Fp.scaleOf F p = p / 2 ^ F.fracBits - 1 := rfl
  rw [Fp.magnitude]
  cases hk : p / 2 ^ F.fracBits with
  | zero =>
    rw [hk] at hscale hsplit
    rw [hscale] at hadd ⊢
    have hsig : Fp.significand F p = p % 2 ^ F.fracBits := by omega
    simp [hsig]
  | succ k =>
    rw [hk] at hscale hsplit
    rw [Nat.succ_mul] at hsplit
    rw [hscale, Nat.add_sub_cancel] at hadd
    have hsig : Fp.significand F p = p % 2 ^ F.fracBits + 2 ^ F.fracBits := by omega
    have hexp : F.minExp + ((k + 1 : Nat) : Int) - 1 = F.minExp + (k : Int) := by push_cast; ring
    simp only [Nat.succ_ne_zero, ↓reduceIte, hsig, hscale, Nat.add_sub_cancel, hexp]

/-- The value of a pattern put together from a scale and a number on it, the first of the next scale included. -/
theorem Fp.magnitude_of_parts {k n : Nat} (hn : n ≤ 2 * 2 ^ F.fracBits) (hk : 2 ^ F.fracBits ≤ n ∨ k = 0) :
    Fp.magnitude F (k * 2 ^ F.fracBits + n) = (n : ℚ) * 2 ^ (F.minExp + (k : Int)) := by
  have hpos := Fp.fracUnit_pos F
  rw [Fp.magnitude_eq]
  rcases hn.lt_or_eq with hlt | rfl
  · have hscale : Fp.scaleOf F (k * 2 ^ F.fracBits + n) = k := by
      rw [Fp.scaleOf, Nat.add_comm, Nat.add_mul_div_right _ _ hpos]
      rcases hk with hge | rfl
      · have h1 : n / 2 ^ F.fracBits = 1 := Nat.div_eq_of_lt_le (by omega) (by omega)
        omega
      · have h2 : n / 2 ^ F.fracBits < 2 := Nat.div_lt_of_lt_mul (by omega)
        omega
    have hadd := Fp.significand_add F (k * 2 ^ F.fracBits + n)
    rw [hscale] at hadd ⊢
    have hsig : Fp.significand F (k * 2 ^ F.fracBits + n) = n := by omega
    rw [hsig]
  · have hscale : Fp.scaleOf F (k * 2 ^ F.fracBits + 2 * 2 ^ F.fracBits) = k + 1 := by
      rw [Fp.scaleOf, ← Nat.add_mul, Nat.mul_div_cancel _ hpos]
      omega
    have hadd := Fp.significand_add F (k * 2 ^ F.fracBits + 2 * 2 ^ F.fracBits)
    rw [hscale, Nat.succ_mul] at hadd
    have hsig : Fp.significand F (k * 2 ^ F.fracBits + 2 * 2 ^ F.fracBits) = 2 ^ F.fracBits := by omega
    have hexp : F.minExp + ((k + 1 : Nat) : Int) = F.minExp + (k : Int) + 1 := by push_cast; ring
    rw [hscale, hsig, hexp, zpow_add_one₀ (by norm_num)]
    push_cast
    ring

/-- Neighbouring patterns are one unit of the lower one's scale apart. -/
theorem Fp.magnitude_succ (p : Nat) :
    Fp.magnitude F (p + 1) = Fp.magnitude F p + 2 ^ (F.minExp + (Fp.scaleOf F p : Int)) := by
  obtain ⟨hlt, hk⟩ := Fp.significand_bounds F p
  have hadd := Fp.significand_add F p
  have hp : p + 1 = Fp.scaleOf F p * 2 ^ F.fracBits + (Fp.significand F p + 1) := by omega
  rw [hp, Fp.magnitude_of_parts F (by omega) (hk.imp_left (by omega)), Fp.magnitude_eq F p]
  push_cast
  ring

/-- Values increase with patterns. -/
theorem Fp.magnitude_strictMono : StrictMono (Fp.magnitude F) := by
  refine strictMono_nat_of_lt_succ fun p => ?_
  rw [Fp.magnitude_succ]
  exact lt_add_of_pos_right _ (by positivity)

theorem Fp.magnitude_zero : Fp.magnitude F 0 = 0 := by simp [Fp.magnitude]

theorem Fp.magnitude_one : Fp.magnitude F 1 = 2 ^ F.minExp := by
  have hpos := Fp.fracUnit_pos F
  have h := Fp.magnitude_of_parts F (k := 0) (n := 1) (by omega) (.inr rfl)
  simpa using h

/-- The least normal number. -/
theorem Fp.magnitude_normal : Fp.magnitude F (2 ^ F.fracBits) = (2 ^ F.fracBits : ℚ) * 2 ^ F.minExp := by
  have h := Fp.magnitude_of_parts F (k := 0) (n := 2 ^ F.fracBits) (by omega) (.inr rfl)
  simpa using h

theorem Fp.magnitude_nonneg (p : Nat) : 0 ≤ Fp.magnitude F p := by
  rw [← Fp.magnitude_zero F]
  exact (Fp.magnitude_strictMono F).monotone (Nat.zero_le p)

theorem Fp.magnitude_eq_zero_iff (p : Nat) : Fp.magnitude F p = 0 ↔ p = 0 := by
  rw [← Fp.magnitude_zero F, (Fp.magnitude_strictMono F).injective.eq_iff]

end

/-- A finite pattern is read as its value (R400). -/
theorem Fp.unpack_finite {F : Fp.Format} {a : Nat} (h : Fp.finite F a) :
    ∃ m e, Fp.unpack F a = .fin (Fp.negative F a) m e ∧ Fp.magnitude F (a % F.signBit) = (m : ℚ) * 2 ^ e ∧
      (m = 0 ↔ a % F.signBit = 0) := by
  refine ⟨_, _, Fp.unpack_of_finite h.2, Fp.magnitude_eq F _, ?_⟩
  change Fp.significand F (a % F.signBit) = 0 ↔ _
  rw [← Fp.magnitude_eq_zero_iff F (a % F.signBit), Fp.magnitude_eq]
  simp [zpow_ne_zero]

theorem Fp.number_eq (F : Fp.Format) (a : Nat) :
    Fp.number F a = if Fp.negative F a then -Fp.magnitude F (a % F.signBit) else Fp.magnitude F (a % F.signBit) := by
  simp only [Fp.number, Fp.negative, beq_iff_eq]

end Sys2Proof.Machine
end

section
/-!
PROOFS about what needs no rounding: comparisons (O58), moves, signs and classes (O52), and what NaNs, infinities, zeros
and the selection of an operand give (O57).
-/
namespace Sys2Proof.Machine

open Sys2Proof

/-! ## Kinds of patterns -/

section

variable {F : Fp.Format} {a b : Nat}

theorem Fp.unpack_isNan (F : Fp.Format) (a : Nat) : (Fp.unpack F a).isNan = Fp.nanPattern F a := by
  rcases Nat.lt_trichotomy (a % F.signBit) F.infPattern with h | h | h
  · rw [Fp.unpack_of_finite h, Fp.nanPattern, decide_eq_false h.not_gt]
    rfl
  · rw [Fp.unpack_of_infinite h, Fp.nanPattern, decide_eq_false h.not_gt]
    rfl
  · rw [Fp.unpack_of_nan h, Fp.nanPattern, decide_eq_true h]
    rfl

theorem Fp.unpack_isSignaling (F : Fp.Format) (a : Nat) :
    (Fp.unpack F a).isSignaling = Fp.signalingPattern F a := by
  rcases Nat.lt_trichotomy (a % F.signBit) F.infPattern with h | h | h
  · rw [Fp.unpack_of_finite h, Fp.signalingPattern, Fp.nanPattern, decide_eq_false h.not_gt]
    rfl
  · rw [Fp.unpack_of_infinite h, Fp.signalingPattern, Fp.nanPattern, decide_eq_false h.not_gt]
    rfl
  · rw [Fp.unpack_of_nan h, Fp.signalingPattern, Fp.nanPattern, decide_eq_true h]
    rfl

theorem Fp.anyNan_eq (F : Fp.Format) (a b : Nat) : Fp.anyNan F a b = (Fp.nanPattern F a || Fp.nanPattern F b) := by
  rw [Fp.anyNan, Fp.unpack_isNan, Fp.unpack_isNan]

theorem Fp.anySignaling_eq (F : Fp.Format) (a b : Nat) :
    Fp.anySignaling F a b = (Fp.signalingPattern F a || Fp.signalingPattern F b) := by
  rw [Fp.anySignaling, Fp.unpack_isSignaling, Fp.unpack_isSignaling]

theorem Fp.signalingPattern_of_not_nan (h : Fp.nanPattern F a = false) : Fp.signalingPattern F a = false := by
  rw [Fp.signalingPattern, h, Bool.false_and]

theorem Fp.finite.not_nan (h : Fp.finite F a) : Fp.nanPattern F a = false := decide_eq_false h.2.not_gt

theorem Fp.finite.not_infinite (h : Fp.finite F a) : Fp.infinitePattern F a = false := by
  rw [Fp.infinitePattern, beq_eq_false_iff_ne]
  exact h.2.ne

theorem Fp.infinitePattern_iff : Fp.infinitePattern F a = true ↔ a % F.signBit = F.infPattern := by
  rw [Fp.infinitePattern, beq_iff_eq]

theorem Fp.nanPattern_iff : Fp.nanPattern F a = true ↔ F.infPattern < a % F.signBit := by
  rw [Fp.nanPattern, decide_eq_true_eq]

theorem Fp.not_nan_of_infinite (h : Fp.infinitePattern F a = true) : Fp.nanPattern F a = false :=
  decide_eq_false (Fp.infinitePattern_iff.1 h).not_gt

/-- A pattern is its sign and its magnitude. -/
theorem Fp.eq_withSign (h : a < 2 * F.signBit) : a = F.withSign (Fp.negative F a) (a % F.signBit) := by
  have hsplit := Nat.div_add_mod a F.signBit
  have hlt : a / F.signBit < 2 := Nat.div_lt_of_lt_mul (by omega)
  rw [Fp.Format.withSign, Fp.negative]
  generalize a / F.signBit = q at hsplit hlt ⊢
  obtain rfl | rfl : q = 0 ∨ q = 1 := by omega
  · simpa using hsplit.symm
  · simpa using hsplit.symm

theorem Fp.withSign_mod (neg : Bool) {p : Nat} (hp : p < F.signBit) : F.withSign neg p % F.signBit = p := by
  rw [Fp.Format.withSign]
  cases neg
  · simpa using Nat.mod_eq_of_lt hp
  · simpa using Nat.mod_eq_of_lt hp

theorem Fp.negative_withSign (neg : Bool) {p : Nat} (hp : p < F.signBit) : Fp.negative F (F.withSign neg p) = neg := by
  rw [Fp.negative, Fp.Format.withSign]
  cases neg
  · simp [Nat.div_eq_of_lt hp]
  · simp [Nat.add_div_left _ (Fp.signBit_pos F), Nat.div_eq_of_lt hp]

theorem Fp.withSign_lt (neg : Bool) {p : Nat} (hp : p < F.signBit) : F.withSign neg p < 2 * F.signBit := by
  rw [Fp.Format.withSign]
  split <;> omega

end

/-! ## The order of values (O58) -/

section

variable (F : Fp.Format) (a b : Nat)

/-- The key of a pattern is its magnitude with the sign. -/
theorem Fp.key_eq : Fp.key F a =
    if Fp.negative F a then -((a % F.signBit : Nat) : Int) else ((a % F.signBit : Nat) : Int) := by
  simp only [Fp.key, Fp.negative, beq_iff_eq]

/-- The value that a key stands for. -/
def Fp.valueOfKey (k : Int) : ℚ := if k < 0 then -Fp.magnitude F k.natAbs else Fp.magnitude F k.natAbs

theorem Fp.valueOfKey_strictMono : StrictMono (Fp.valueOfKey F) := by
  intro i j hij
  have hmono := Fp.magnitude_strictMono F
  rw [Fp.valueOfKey, Fp.valueOfKey]
  rcases lt_or_ge i 0 with hi | hi <;> rcases lt_or_ge j 0 with hj | hj
  · rw [if_pos hi, if_pos hj]
    exact neg_lt_neg (hmono (by omega))
  · rw [if_pos hi, if_neg (by omega)]
    have hpos : 0 < Fp.magnitude F i.natAbs := by
      rw [← Fp.magnitude_zero F]
      exact hmono (by omega)
    linarith [Fp.magnitude_nonneg F j.natAbs]
  · omega
  · rw [if_neg (by omega), if_neg (by omega)]
    exact hmono (by omega)

theorem Fp.number_eq_valueOfKey : Fp.number F a = Fp.valueOfKey F (Fp.key F a) := by
  rw [Fp.number_eq, Fp.key_eq, Fp.valueOfKey]
  cases Fp.negative F a
  · have hpos : ¬ ((a % F.signBit : Nat) : Int) < 0 := not_lt.2 (Int.natCast_nonneg _)
    simp only [Bool.false_eq_true, ↓reduceIte, hpos, Int.natAbs_natCast]
  · rcases Nat.eq_zero_or_pos (a % F.signBit) with h0 | hpos
    · simp [h0, Fp.magnitude_zero]
    · have hneg : -((a % F.signBit : Nat) : Int) < 0 := by omega
      simp only [↓reduceIte, hneg, Int.natAbs_neg, Int.natAbs_natCast]

theorem Fp.number_lt_iff : Fp.number F a < Fp.number F b ↔ Fp.key F a < Fp.key F b := by
  rw [Fp.number_eq_valueOfKey, Fp.number_eq_valueOfKey, (Fp.valueOfKey_strictMono F).lt_iff_lt]

theorem Fp.number_le_iff : Fp.number F a ≤ Fp.number F b ↔ Fp.key F a ≤ Fp.key F b := by
  rw [Fp.number_eq_valueOfKey, Fp.number_eq_valueOfKey, (Fp.valueOfKey_strictMono F).le_iff_le]

theorem Fp.number_eq_iff : Fp.number F a = Fp.number F b ↔ Fp.key F a = Fp.key F b := by
  rw [Fp.number_eq_valueOfKey, Fp.number_eq_valueOfKey, (Fp.valueOfKey_strictMono F).injective.eq_iff]

variable {F a b}

/-- Comparisons of operands that are no NaN compare their keys and signal nothing. -/
theorem Fp.compare_of_not_nan (ha : Fp.nanPattern F a = false) (hb : Fp.nanPattern F b = false) :
    Fp.eq F a b = (Fp.key F a == Fp.key F b, 0) ∧ Fp.lt F a b = (decide (Fp.key F a < Fp.key F b), 0) ∧
    Fp.le F a b = (decide (Fp.key F a ≤ Fp.key F b), 0) := by
  have hnan : Fp.anyNan F a b = false := by rw [Fp.anyNan_eq, ha, hb]; rfl
  have hsig : Fp.anySignaling F a b = false := by
    rw [Fp.anySignaling_eq, Fp.signalingPattern_of_not_nan ha, Fp.signalingPattern_of_not_nan hb]
    rfl
  simp [Fp.eq, Fp.lt, Fp.le, hnan, hsig, flagIf]

theorem Fp.key_of_infinite (h : Fp.infinitePattern F a = true) :
    Fp.key F a = if Fp.negative F a then -(F.infPattern : Int) else (F.infPattern : Int) := by
  rw [Fp.key_eq, Fp.infinitePattern_iff.1 h]

/-- The keys of finite patterns lie between those of the infinities. -/
theorem Fp.finite.key_bounds (h : Fp.finite F a) : -(F.infPattern : Int) < Fp.key F a ∧ Fp.key F a < F.infPattern := by
  have hlt := h.2
  rw [Fp.key_eq]
  split <;> omega

end

theorem Fp.Known.infPattern_pos {F : Fp.Format} (hF : Fp.Known F) : 0 < F.infPattern := by
  have h1 := hF.infPattern_ge
  have h2 := hF.four_le_frac
  omega

/-- Settles O58. -/
theorem comparisonsAgreeWithValues : Obligations.ComparisonsAgreeWithValues := by
  unfold Obligations.ComparisonsAgreeWithValues
  intro F a b hF ha hb
  have hpos : (0 : Int) < F.infPattern := by exact_mod_cast Fp.Known.infPattern_pos hF
  refine ⟨fun hfa hfb => ?finite, fun hia hib => ?infinite, fun hia hfb => ?mixed, fun hnan => ?nan⟩
  case finite =>
    obtain ⟨heq, hlt, hle⟩ := Fp.compare_of_not_nan hfa.not_nan hfb.not_nan
    rw [heq, hlt, hle, Fp.number_eq_iff, Fp.number_lt_iff, Fp.number_le_iff]
    simp
  case infinite =>
    obtain ⟨heq, hlt, hle⟩ := Fp.compare_of_not_nan (Fp.not_nan_of_infinite hia) (Fp.not_nan_of_infinite hib)
    rw [heq, hlt, hle, Fp.key_of_infinite hia, Fp.key_of_infinite hib]
    cases Fp.negative F a <;> cases Fp.negative F b <;> simp <;> omega
  case mixed =>
    obtain ⟨heq, hlt, hle⟩ := Fp.compare_of_not_nan (Fp.not_nan_of_infinite hia) hfb.not_nan
    obtain ⟨heq', hlt', hle'⟩ := Fp.compare_of_not_nan hfb.not_nan (Fp.not_nan_of_infinite hia)
    obtain ⟨hlow, hhigh⟩ := hfb.key_bounds
    rw [heq, hlt, hle, heq', hlt', hle', Fp.key_of_infinite hia]
    cases Fp.negative F a <;> simp <;> omega
  case nan =>
    have hany : Fp.anyNan F a b = true := by
      rw [Fp.anyNan_eq, Bool.or_eq_true, Fp.nanPattern_iff, Fp.nanPattern_iff]
      exact hnan
    have hsig : Fp.anySignaling F a b = true ↔ (F.infPattern < a % F.signBit ∧ a % F.signBit < F.nan) ∨
        (F.infPattern < b % F.signBit ∧ b % F.signBit < F.nan) := by
      rw [Fp.anySignaling_eq]
      simp [Fp.signalingPattern, Fp.nanPattern]
    simp only [Fp.eq, Fp.lt, Fp.le, hany, flagIf, hsig, Bool.not_true, Bool.false_and, ↓reduceIte, and_self]

/-! ## Moves, signs and classes (O52) -/

theorem getLsbD_top (n : Nat) (v : BitVec (n + 1)) : v.toNat / 2 ^ n = (v.getLsbD n).toNat := by
  have hlt : v.toNat / 2 ^ n < 2 := Nat.div_lt_of_lt_mul (by rw [← Nat.pow_succ]; exact v.isLt)
  rw [BitVec.getLsbD, Nat.testBit_eq_decide_div_mod_eq, Nat.mod_eq_of_lt hlt]
  generalize v.toNat / 2 ^ n = q at hlt ⊢
  obtain rfl | rfl : q = 0 ∨ q = 1 := by omega
  · rfl
  · rfl

theorem ofBool_append_toNat {n : Nat} (sign : Bool) (v : BitVec n) :
    (BitVec.ofBool sign ++ v).toNat = v.toNat + sign.toNat * 2 ^ n := by
  rw [BitVec.toNat_append, ← Nat.shiftLeft_add_eq_or_of_lt v.isLt, BitVec.toNat_ofBool, Nat.shiftLeft_eq, Nat.add_comm]

theorem withSignS_eq (sign : Bool) (v : BitVec 32) :
    withSignS sign v = BitVec.ofNat 32 (v.toNat % 2 ^ 31 + sign.toNat * 2 ^ 31) := by
  apply BitVec.eq_of_toNat_eq
  have hnat : (withSignS sign v).toNat = v.toNat % 2 ^ 31 + sign.toNat * 2 ^ 31 := by
    rw [withSignS, ofBool_append_toNat, bits_toNat, Nat.pow_zero, Nat.div_one]
  rw [← hnat, BitVec.ofNat_toNat, BitVec.setWidth_eq]

theorem withSignD_eq (sign : Bool) (v : BitVec 64) :
    withSignD sign v = BitVec.ofNat 64 (v.toNat % 2 ^ 63 + sign.toNat * 2 ^ 63) := by
  apply BitVec.eq_of_toNat_eq
  have hnat : (withSignD sign v).toNat = v.toNat % 2 ^ 63 + sign.toNat * 2 ^ 63 := by
    rw [withSignD, ofBool_append_toNat, bits_toNat, Nat.pow_zero, Nat.div_one]
  rw [← hnat, BitVec.ofNat_toNat, BitVec.setWidth_eq]

section

variable {s : State} {i : Instr} {fd : FReg} {sign : Bool}

theorem exec_signS {v : BitVec 32} (he : exec i s = s.gate i (s.moveS fd (withSignS sign v)))
    (hp : s.permits i = true) :
    exec i s = .next ((s.setS fd (BitVec.ofNat 32 (v.toNat % 2 ^ 31 + sign.toNat * 2 ^ 31))).passed 4) := by
  rw [he, State.gate_of_permits hp, withSignS_eq]
  rfl

theorem exec_signD {v : BitVec 64} (he : exec i s = s.gate i (s.moveD fd (withSignD sign v)))
    (hp : s.permits i = true) :
    exec i s = .next ((s.setF fd (BitVec.ofNat 64 (v.toNat % 2 ^ 63 + sign.toNat * 2 ^ 63))).passed 4) := by
  rw [he, State.gate_of_permits hp, withSignD_eq]
  rfl

end

theorem toNat_not (b : Bool) : 1 - b.toNat = (!b).toNat := by cases b <;> rfl

theorem toNat_xor (a b : Bool) : (a.toNat + b.toNat) % 2 = (a ^^ b).toNat := by cases a <;> cases b <;> rfl

theorem Fp.classify_lt (F : Fp.Format) (a : Nat) : Fp.classify F a < 10 := by
  unfold Fp.classify
  repeat' split
  all_goals decide

/-- A one-hot class as a number. -/
theorem State.norm_bitAt (s : State) {k : Nat} (hk : k < 64) :
    s.norm (bitAt true k) = s.norm (s.word (2 ^ k)) := by
  refine State.norm_eq_norm_word ?_
  have hlt : 2 ^ k < 2 ^ 64 := Nat.pow_lt_pow_right (by decide) hk
  rw [bitAt, if_pos rfl, BitVec.toNat_shiftLeft, Nat.shiftLeft_eq, show (1#64).toNat = 1 from rfl, Nat.one_mul,
    Nat.mod_eq_of_lt hlt]
  push_cast
  rfl

section

variable {F : Fp.Format} {a : Nat}

theorem Fp.classify_of_finite (h : a % F.signBit < F.infPattern) :
    Fp.classify F a =
      if a % F.signBit = 0 then (if Fp.negative F a then 3 else 4)
      else if a % F.signBit < 2 ^ F.fracBits then (if Fp.negative F a then 2 else 5)
      else if Fp.negative F a then 1 else 6 := by
  have hsig : a % F.signBit - (a % F.signBit / 2 ^ F.fracBits - 1) * 2 ^ F.fracBits =
      Fp.significand F (a % F.signBit) := rfl
  obtain ⟨hlt, hk⟩ := Fp.significand_bounds F (a % F.signBit)
  have hadd := Fp.significand_add F (a % F.signBit)
  have hpos := Fp.fracUnit_pos F
  have hzero : Fp.significand F (a % F.signBit) = 0 ↔ a % F.signBit = 0 := by
    rcases hk with hk | hk
    · have := hadd
      omega
    · rw [hk, Nat.zero_mul] at hadd
      omega
  have hsub : Fp.significand F (a % F.signBit) < 2 ^ F.fracBits ↔ a % F.signBit < 2 ^ F.fracBits := by
    rcases hk with hk | hk
    · have := hadd
      omega
    · rw [hk, Nat.zero_mul] at hadd
      omega
  rw [Fp.classify, Fp.unpack_of_finite h, hsig]
  simp only [hzero, hsub]

theorem Fp.classify_of_infinite (h : a % F.signBit = F.infPattern) :
    Fp.classify F a = if Fp.negative F a then 0 else 7 := by
  rw [Fp.classify, Fp.unpack_of_infinite h]

theorem Fp.classify_of_nan (h : F.infPattern < a % F.signBit) :
    Fp.classify F a = if a % F.signBit < F.nan then 8 else 9 := by
  rw [Fp.classify, Fp.unpack_of_nan h]
  simp

end

/-- Settles O52. -/
theorem movesSignsAndClassesComplete : Obligations.MovesSignsAndClassesComplete := by
  unfold Obligations.MovesSignsAndClassesComplete
  refine ⟨fun s rd rs1 fd f1 f2 => ⟨fun hS => ?single, fun hD => ?double⟩, fun F a hF ha => ?classes⟩
  case single =>
    have hp := fun i => permits_single (i := i) hS
    have hsign := fun f : FReg => getLsbD_top 31 (s.getS f)
    refine ⟨?_, ?_, ?_, ?_, ?_, ?_⟩
    · rw [← s.bits_getX_toNat, BitVec.ofNat_toNat, BitVec.setWidth_eq]
      exact (exec_permitted rfl (hp _ rfl rfl rfl)).trans rfl
    · refine exec_eq_wrote rfl (hp _ rfl rfl rfl) ?_
      have hlow : (bits (s.getF f1) 0 32).toNat = (s.getF f1).toNat % 2 ^ 32 := by
        rw [bits_toNat, Nat.pow_zero, Nat.div_one]
      rw [← hlow, twos_toInt (by decide), s.norm_word]
      exact s.sext_eq_word (bits (s.getF f1) 0 32) (by decide)
    · exact exec_eq_wrote rfl (hp _ rfl rfl rfl) (s.norm_bitAt ((Fp.classify_lt _ _).trans (by decide)))
    · rw [hsign]
      exact exec_signS rfl (hp _ rfl rfl rfl)
    · rw [hsign, toNat_not]
      exact exec_signS rfl (hp _ rfl rfl rfl)
    · rw [hsign, hsign, toNat_xor]
      exact exec_signS rfl (hp _ rfl rfl rfl)
  case double =>
    have hp := fun i => permits_double (i := i) hD
    have hsign := fun f : FReg => getLsbD_top 63 (s.getF f)
    refine ⟨fun hx => ⟨?_, ?_⟩, ?_, ?_, ?_, ?_⟩
    · exact (exec_permitted rfl (permits_double_rv64 hD hx rfl rfl rfl)).trans rfl
    · exact exec_eq_wrote rfl (permits_double_rv64 hD hx rfl rfl rfl) rfl
    · exact exec_eq_wrote rfl (hp _ rfl rfl rfl) (s.norm_bitAt ((Fp.classify_lt _ _).trans (by decide)))
    · rw [hsign]
      exact exec_signD rfl (hp _ rfl rfl rfl)
    · rw [hsign, toNat_not]
      exact exec_signD rfl (hp _ rfl rfl rfl)
    · rw [hsign, hsign, toNat_xor]
      exact exec_signD rfl (hp _ rfl rfl rfl)
  case classes =>
    intro p least signed
    have hpos := Fp.fracUnit_pos F
    have hge := Fp.Known.infPattern_ge hF
    refine ⟨fun h => Fp.classify_of_infinite h, fun hlo hhi => ?_, fun hlo hhi => ?_, fun h => ?_, fun h => ?_,
      fun h hs => ?_⟩
    · rw [Fp.classify_of_finite hhi, if_neg (by omega), if_neg (by omega)]
    · rw [Fp.classify_of_finite (show a % F.signBit < F.infPattern by omega), if_neg (by omega), if_pos hhi]
    · rw [Fp.classify_of_finite (show a % F.signBit < F.infPattern by omega), if_pos h]
    · simp only [Fp.signalingPattern, Fp.nanPattern, Bool.and_eq_true, decide_eq_true_eq] at h
      rw [Fp.classify_of_nan h.1, if_pos h.2]
    · have hnan := Fp.nanPattern_iff.1 h
      rw [Fp.signalingPattern, h, Bool.true_and, decide_eq_false_iff_not] at hs
      rw [Fp.classify_of_nan hnan, if_neg hs]

end Sys2Proof.Machine
end

section
/-!
PROOFS about what NaNs, infinities and zeros give, and which operand minimum and maximum select (O57).
-/
namespace Sys2Proof.Machine

open Sys2Proof

section

variable {F G : Fp.Format} {rm : Rounding} {a b c : Nat}

/-! ## The kinds of operands as they are read -/

theorem Fp.unpack_nanPattern (h : Fp.nanPattern F a = true) : Fp.unpack F a = .nan (Fp.signalingPattern F a) := by
  rw [Fp.unpack_of_nan (Fp.nanPattern_iff.1 h), Fp.signalingPattern, h, Bool.true_and]

theorem Fp.unpack_infinitePattern (h : Fp.infinitePattern F a = true) : Fp.unpack F a = .inf (Fp.negative F a) :=
  Fp.unpack_of_infinite (Fp.infinitePattern_iff.1 h)

/-- A pattern of the format is a NaN, an infinity, or finite. -/
theorem Fp.kinds (h : a < 2 * F.signBit) :
    Fp.nanPattern F a = true ∨ Fp.infinitePattern F a = true ∨ Fp.finite F a := by
  rcases Nat.lt_trichotomy (a % F.signBit) F.infPattern with hlt | heq | hgt
  · exact .inr (.inr ⟨h, hlt⟩)
  · exact .inr (.inl (Fp.infinitePattern_iff.2 heq))
  · exact .inl (Fp.nanPattern_iff.2 hgt)

/-- A finite pattern is read as a number that is zero when its magnitude is. -/
theorem Fp.unpack_finite_zero (h : Fp.finite F a) :
    ∃ m e, Fp.unpack F a = .fin (Fp.negative F a) m e ∧ (m == 0) = (a % F.signBit == 0) := by
  obtain ⟨m, e, hu, -, hz⟩ := Fp.unpack_finite h
  exact ⟨m, e, hu, by rw [Bool.eq_iff_iff, beq_iff_eq, beq_iff_eq, hz]⟩

theorem Fp.finite_of_zero (hF : Fp.Known F) (h : a < 2 * F.signBit) (hz : (a % F.signBit == 0) = true) :
    Fp.finite F a := by
  rw [beq_iff_eq] at hz
  exact ⟨h, hz ▸ hF.infPattern_pos⟩

theorem Fp.not_zero_of_infinite (hF : Fp.Known F) (h : Fp.infinitePattern F a = true) :
    (a % F.signBit == 0) = false := by
  rw [Fp.infinitePattern_iff.1 h, beq_eq_false_iff_ne]
  exact hF.infPattern_pos.ne'

/-- The infinity of a sign is the pattern itself. -/
theorem Fp.infinity_negative (ha : a < 2 * F.signBit) (h : Fp.infinitePattern F a = true) :
    Fp.infinity F (Fp.negative F a) = (a, 0) := by
  rw [Fp.infinity, ← Fp.infinitePattern_iff.1 h, ← Fp.eq_withSign ha]

/-! ## Sums, products and quotients -/

/-- A NaN operand gives the canonical NaN, with NV when one is signaling. -/
theorem Fp.arithmetic_nan (ha : a < 2 * F.signBit) (h : Fp.nanPattern F a = true ∨ Fp.nanPattern F b = true) :
    Fp.add F rm a b = Fp.quiet F (Fp.signalingPattern F a || Fp.signalingPattern F b) ∧
    Fp.mul F rm a b = Fp.quiet F (Fp.signalingPattern F a || Fp.signalingPattern F b) ∧
    Fp.div F rm a b = Fp.quiet F (Fp.signalingPattern F a || Fp.signalingPattern F b) := by
  have hsb := Fp.unpack_isSignaling F b
  rcases Fp.kinds ha with hna | hia | hfa
  · have hu := Fp.unpack_nanPattern hna
    simp only [Fp.add, Fp.mul, Fp.div, hu, hsb, and_self]
  · have hu := Fp.unpack_infinitePattern hia
    have hna := Fp.not_nan_of_infinite hia
    have hv := Fp.unpack_nanPattern (h.resolve_left (by simp [hna]))
    simp only [Fp.add, Fp.mul, Fp.div, hu, hv, Fp.signalingPattern_of_not_nan hna, Bool.false_or, and_self]
  · obtain ⟨m, e, hu, -⟩ := Fp.unpack_finite_zero hfa
    have hv := Fp.unpack_nanPattern (h.resolve_left (by simp [hfa.not_nan]))
    simp only [Fp.add, Fp.mul, Fp.div, hu, hv, Fp.signalingPattern_of_not_nan hfa.not_nan, Bool.false_or, and_self]

theorem Fp.arithmetic_infinite_infinite (ha : a < 2 * F.signBit) (hia : Fp.infinitePattern F a = true)
    (hib : Fp.infinitePattern F b = true) :
    Fp.add F rm a b = (if Fp.negative F a = Fp.negative F b then (a, 0) else Fp.invalid F) ∧
    Fp.mul F rm a b = Fp.infinity F (Fp.negative F a != Fp.negative F b) ∧ Fp.div F rm a b = Fp.invalid F := by
  simp only [Fp.add, Fp.mul, Fp.div, Fp.unpack_infinitePattern hia, Fp.unpack_infinitePattern hib,
    Fp.infinity_negative ha hia, and_self]

theorem Fp.arithmetic_infinite_finite (ha : a < 2 * F.signBit) (hia : Fp.infinitePattern F a = true)
    (hfb : Fp.finite F b) :
    Fp.add F rm a b = (a, 0) ∧
    Fp.mul F rm a b = (if b % F.signBit == 0 then Fp.invalid F
      else Fp.infinity F (Fp.negative F a != Fp.negative F b)) ∧
    Fp.div F rm a b = Fp.infinity F (Fp.negative F a != Fp.negative F b) := by
  obtain ⟨m, e, hu, hz⟩ := Fp.unpack_finite_zero hfb
  simp only [Fp.add, Fp.mul, Fp.div, Fp.unpack_infinitePattern hia, hu, Fp.infinity_negative ha hia, ← hz, beq_iff_eq,
    and_self]

theorem Fp.arithmetic_finite_infinite (hb : b < 2 * F.signBit) (hfa : Fp.finite F a)
    (hib : Fp.infinitePattern F b = true) :
    Fp.add F rm a b = (b, 0) ∧
    Fp.mul F rm a b = (if a % F.signBit == 0 then Fp.invalid F
      else Fp.infinity F (Fp.negative F a != Fp.negative F b)) ∧
    Fp.div F rm a b = (F.withSign (Fp.negative F a != Fp.negative F b) 0, 0) := by
  obtain ⟨m, e, hu, hz⟩ := Fp.unpack_finite_zero hfa
  simp only [Fp.add, Fp.mul, Fp.div, Fp.unpack_infinitePattern hib, hu, Fp.infinity_negative hb hib, ← hz, beq_iff_eq,
    and_self]

/-! ## The fused product and sum -/

/-- Is the product an infinity times a zero? -/
def Fp.undefinedProduct (F : Fp.Format) (a b : Nat) : Bool :=
  match Fp.unpack F a, Fp.unpack F b with
  | .inf _, .fin _ m _ => m == 0
  | .fin _ m _, .inf _ => m == 0
  | _, _ => false

theorem Fp.undefinedProduct_eq (hF : Fp.Known F) (ha : a < 2 * F.signBit) (hb : b < 2 * F.signBit) :
    Fp.undefinedProduct F a b = ((Fp.infinitePattern F a && b % F.signBit == 0) ||
      (a % F.signBit == 0 && Fp.infinitePattern F b)) := by
  have hnan : ∀ {v}, Fp.nanPattern F v = true → Fp.infinitePattern F v = false ∧ (v % F.signBit == 0) = false :=
    fun {v} h => by
      have hlt := Fp.nanPattern_iff.1 h
      have hpos := hF.infPattern_pos
      exact ⟨beq_eq_false_iff_ne.2 hlt.ne', beq_eq_false_iff_ne.2 (by omega)⟩
  rw [Fp.undefinedProduct]
  rcases Fp.kinds ha with hna | hia | hfa
  · simp only [Fp.unpack_nanPattern hna, hnan hna, Bool.false_and, Bool.or_self]
  · rw [Fp.unpack_infinitePattern hia, hia, Fp.not_zero_of_infinite hF hia]
    rcases Fp.kinds hb with hnb | hib | hfb
    · simp only [Fp.unpack_nanPattern hnb, hnan hnb, Bool.and_false, Bool.or_self]
    · simp only [Fp.unpack_infinitePattern hib, Fp.not_zero_of_infinite hF hib, Bool.and_false, Bool.false_and,
        Bool.or_self]
    · obtain ⟨m, e, hu, hz⟩ := Fp.unpack_finite_zero hfb
      simp only [hu, hz, Bool.true_and, Bool.false_and, Bool.or_false]
  · obtain ⟨m, e, hu, hz⟩ := Fp.unpack_finite_zero hfa
    rw [hu, hfa.not_infinite, ← hz]
    rcases Fp.kinds hb with hnb | hib | hfb
    · simp only [Fp.unpack_nanPattern hnb, hnan hnb, Bool.and_false, Bool.or_self]
    · simp only [Fp.unpack_infinitePattern hib, hib, Bool.false_and, Bool.and_true, Bool.false_or]
    · obtain ⟨m', e', hu', -⟩ := Fp.unpack_finite_zero hfb
      simp only [hu', hfb.not_infinite, Bool.false_and, Bool.and_false, Bool.or_self]

theorem Fp.fma_of_undefined (h : Fp.undefinedProduct F a b = true) : Fp.fma F rm a b c = Fp.invalid F :=
  if_pos h

theorem Fp.fma_of_nan (h : Fp.undefinedProduct F a b = false)
    (hnan : (Fp.nanPattern F a || Fp.nanPattern F b || Fp.nanPattern F c) = true) :
    Fp.fma F rm a b c =
      Fp.quiet F (Fp.signalingPattern F a || Fp.signalingPattern F b || Fp.signalingPattern F c) := by
  rw [← Fp.unpack_isNan, ← Fp.unpack_isNan, ← Fp.unpack_isNan] at hnan
  rw [← Fp.unpack_isSignaling, ← Fp.unpack_isSignaling, ← Fp.unpack_isSignaling]
  have hdef : ¬ Fp.undefinedProduct F a b = true := by simp [h]
  exact (if_neg hdef).trans (if_pos hnan)

/-- An infinite product that is defined: the sum with it. -/
theorem Fp.fma_of_infinite_product (ha : a < 2 * F.signBit) (hb : b < 2 * F.signBit) (hc : c < 2 * F.signBit)
    (h : Fp.undefinedProduct F a b = false) (hna : Fp.nanPattern F a = false) (hnb : Fp.nanPattern F b = false)
    (hnc : Fp.nanPattern F c = false) (hinf : Fp.infinitePattern F a = true ∨ Fp.infinitePattern F b = true) :
    Fp.fma F rm a b c =
      if Fp.infinitePattern F c && Fp.negative F c != (Fp.negative F a != Fp.negative F b) then Fp.invalid F
      else Fp.infinity F (Fp.negative F a != Fp.negative F b) := by
  have hsum : ∀ na nb nc : Bool,
      (if (na != nb) = nc then Fp.infinity F nc else Fp.invalid F) =
        if nc != (na != nb) then Fp.invalid F else Fp.infinity F (na != nb) := by
    intro na nb nc
    cases na <;> cases nb <;> cases nc <;> rfl
  rw [Fp.undefinedProduct] at h
  rcases (Fp.kinds hc).resolve_left (by simp [hnc]) with hic | hfc
  · rw [hic, Bool.true_and, ← hsum, Fp.fma, Fp.unpack_infinitePattern hic]
    rcases (Fp.kinds ha).resolve_left (by simp [hna]) with hia | hfa
    · rw [Fp.unpack_infinitePattern hia] at h ⊢
      rcases (Fp.kinds hb).resolve_left (by simp [hnb]) with hib | hfb
      · simp [Fp.unpack_infinitePattern hib, Fp.Value.isNan]
      · obtain ⟨m, e, hu, -⟩ := Fp.unpack_finite_zero hfb
        rw [hu] at h ⊢
        simp only [h, Fp.Value.isNan]
        rfl
    · obtain ⟨m, e, hu, -⟩ := Fp.unpack_finite_zero hfa
      have hib := hinf.resolve_left (by simp [hfa.not_infinite])
      rw [hu, Fp.unpack_infinitePattern hib] at h ⊢
      simp only [h, Fp.Value.isNan]
      rfl
  · obtain ⟨mc, ec, huc, -⟩ := Fp.unpack_finite_zero hfc
    rw [hfc.not_infinite, Bool.false_and, Fp.fma, huc]
    rcases (Fp.kinds ha).resolve_left (by simp [hna]) with hia | hfa
    · rw [Fp.unpack_infinitePattern hia] at h ⊢
      rcases (Fp.kinds hb).resolve_left (by simp [hnb]) with hib | hfb
      · simp [Fp.unpack_infinitePattern hib, Fp.Value.isNan]
      · obtain ⟨m, e, hu, -⟩ := Fp.unpack_finite_zero hfb
        rw [hu] at h ⊢
        simp only [h, Fp.Value.isNan]
        rfl
    · obtain ⟨m, e, hu, -⟩ := Fp.unpack_finite_zero hfa
      have hib := hinf.resolve_left (by simp [hfa.not_infinite])
      rw [hu, Fp.unpack_infinitePattern hib] at h ⊢
      simp only [h, Fp.Value.isNan]
      rfl

theorem Fp.fma_of_infinite_addend (hc : c < 2 * F.signBit) (hfa : Fp.finite F a) (hfb : Fp.finite F b)
    (hic : Fp.infinitePattern F c = true) : Fp.fma F rm a b c = (c, 0) := by
  obtain ⟨m, e, hu, -⟩ := Fp.unpack_finite_zero hfa
  obtain ⟨m', e', hu', -⟩ := Fp.unpack_finite_zero hfb
  rw [← Fp.infinity_negative hc hic, Fp.fma, hu, hu', Fp.unpack_infinitePattern hic]
  rfl

/-! ## Minimum and maximum -/

theorem Fp.select_of_not_nan (hna : Fp.nanPattern F a = false) (hnb : Fp.nanPattern F b = false) (first : Bool) :
    Fp.select F first a b = (if first then a else b, 0) := by
  simp [Fp.select, Fp.unpack_isNan, Fp.anySignaling_eq, Fp.signalingPattern_of_not_nan, hna, hnb, flagIf]

/-- With NaNs the other operand is selected, or the canonical NaN. -/
theorem Fp.select_of_nans (hna : Fp.nanPattern F a = true) (hnb : Fp.nanPattern F b = true) (first : Bool) :
    Fp.select F first a b = (F.nan, flagIf (Fp.signalingPattern F a || Fp.signalingPattern F b) flagNV) := by
  simp [Fp.select, Fp.unpack_isNan, Fp.anySignaling_eq, hna, hnb]

theorem Fp.select_of_left_nan (hna : Fp.nanPattern F a = true) (hnb : Fp.nanPattern F b = false) (first : Bool) :
    Fp.select F first a b = (b, flagIf (Fp.signalingPattern F a || Fp.signalingPattern F b) flagNV) := by
  simp [Fp.select, Fp.unpack_isNan, Fp.anySignaling_eq, hna, hnb]

theorem Fp.select_of_right_nan (hna : Fp.nanPattern F a = false) (hnb : Fp.nanPattern F b = true) (first : Bool) :
    Fp.select F first a b = (a, flagIf (Fp.signalingPattern F a || Fp.signalingPattern F b) flagNV) := by
  simp [Fp.select, Fp.unpack_isNan, Fp.anySignaling_eq, hna, hnb]

/-- Of two operands that are no NaN the one below is the minimum, in either order. -/
theorem Fp.min_max_of_below (hna : Fp.nanPattern F a = false) (hnb : Fp.nanPattern F b = false)
    (hab : Fp.below F a b = true) (hba : Fp.below F b a = false) :
    Fp.min F a b = (a, 0) ∧ Fp.min F b a = (a, 0) ∧ Fp.max F a b = (b, 0) ∧ Fp.max F b a = (b, 0) := by
  simp [Fp.min, Fp.max, Fp.select_of_not_nan, hna, hnb, hab, hba]

theorem Fp.below_of_key_lt (h : Fp.key F a < Fp.key F b) : Fp.below F a b = true ∧ Fp.below F b a = false := by
  have hne : ¬ Fp.key F b = Fp.key F a := by omega
  simp [Fp.below, h, hne, h.not_gt]

/-- -0 counts as below +0. -/
theorem Fp.below_of_zeros (hk : Fp.key F a = Fp.key F b) (hna : Fp.negative F a = true)
    (hnb : Fp.negative F b = false) : Fp.below F a b = true ∧ Fp.below F b a = false := by
  have ha : a / F.signBit % 2 = 1 := by simpa [Fp.negative] using hna
  have hb : b / F.signBit % 2 = 0 := by
    have : ¬ b / F.signBit % 2 = 1 := by simpa [Fp.negative] using hnb
    omega
  simp [Fp.below, hk, ha, hb]

theorem Fp.min_max_of_key_lt (hna : Fp.nanPattern F a = false) (hnb : Fp.nanPattern F b = false)
    (h : Fp.key F a < Fp.key F b) :
    Fp.min F a b = (a, 0) ∧ Fp.min F b a = (a, 0) ∧ Fp.max F a b = (b, 0) ∧ Fp.max F b a = (b, 0) :=
  Fp.min_max_of_below hna hnb (Fp.below_of_key_lt h).1 (Fp.below_of_key_lt h).2

/-! ## The change of sign -/

theorem Fp.negate_withSign (neg : Bool) {p : Nat} (hp : p < F.signBit) :
    Fp.negate F (F.withSign neg p) = F.withSign (!neg) p := by
  have hneg := Fp.negative_withSign neg hp
  rw [Fp.negative] at hneg
  rw [Fp.negate]
  cases neg
  · have h1 : ¬ F.withSign false p / F.signBit % 2 = 1 := by simpa using hneg
    rw [if_neg h1]
    simp [Fp.Format.withSign, Nat.add_comm]
  · have h1 : F.withSign true p / F.signBit % 2 = 1 := by simpa using hneg
    rw [if_pos h1]
    simp [Fp.Format.withSign]

theorem Fp.negate_fields (ha : a < 2 * F.signBit) :
    Fp.negate F a < 2 * F.signBit ∧ Fp.negative F (Fp.negate F a) = (!Fp.negative F a) ∧
    Fp.negate F a % F.signBit = a % F.signBit := by
  have hp := Fp.magnitude_lt F a
  have heq : Fp.negate F a = F.withSign (!Fp.negative F a) (a % F.signBit) := by
    rw [← Fp.negate_withSign _ hp, ← Fp.eq_withSign ha]
  rw [heq]
  exact ⟨Fp.withSign_lt _ hp, Fp.negative_withSign _ hp, Fp.withSign_mod _ hp⟩

end

/-- Settles O57. -/
theorem specialOperandsGiveSpecialResults : Obligations.SpecialOperandsGiveSpecialResults := by
  unfold Obligations.SpecialOperandsGiveSpecialResults
  intro F G rm a b c hF hG ha hb hc nan inf zero neg product quiet invalid two
  have hund := Fp.undefinedProduct_eq hF ha hb
  have hsplit : ∀ {x y : Bool}, (x && y) = true → x = true ∧ y = true := fun {x y} h => by simpa using h
  have hnot : ∀ {x : Bool}, (!x) = true → x = false := fun {x} h => by simpa using h
  have hpos : (0 : Int) < F.infPattern := by exact_mod_cast Fp.Known.infPattern_pos hF
  refine ⟨fun h => ?_, fun h => ?_, fun hia hfb => ?_, fun hfa hib => ?_, ⟨fun h => ?_, fun h hnan => ?_,
    fun h hna hnb hnc hinf => ?_, fun hfa hfb hic => ?_⟩, fun h => ?_, fun h => ?_,
    ⟨fun h => ?_, fun h => ?_, fun h => ?_⟩, fun hfa hfb h => ?_, fun hia hfb => ?_, Fp.negate_fields ha,
    fun h => ?_, fun h => ?_⟩
  · exact Fp.arithmetic_nan ha (by simpa using h)
  · obtain ⟨hia, hib⟩ := hsplit h
    exact Fp.arithmetic_infinite_infinite ha hia hib
  · exact Fp.arithmetic_infinite_finite ha hia hfb
  · exact Fp.arithmetic_finite_infinite hb hfa hib
  · exact Fp.fma_of_undefined (hund.trans h)
  · exact Fp.fma_of_nan (hund.trans (hnot h)) hnan
  · exact Fp.fma_of_infinite_product ha hb hc (hund.trans (hnot h)) (hnot hna) (hnot hnb) (hnot hnc) (by simpa using hinf)
  · exact Fp.fma_of_infinite_addend hc hfa hfb hic
  · rw [Fp.convert, Fp.unpack_nanPattern h]
    rfl
  · rw [Fp.convert, Fp.unpack_infinitePattern h]
    rfl
  · obtain ⟨hna, hnb⟩ := hsplit h
    exact ⟨Fp.select_of_nans hna hnb _, Fp.select_of_nans hna hnb _⟩
  · obtain ⟨hna, hnb⟩ := hsplit h
    exact ⟨Fp.select_of_left_nan hna (hnot hnb) _, Fp.select_of_left_nan hna (hnot hnb) _⟩
  · obtain ⟨hna, hnb⟩ := hsplit h
    exact ⟨Fp.select_of_right_nan (hnot hna) hnb _, Fp.select_of_right_nan (hnot hna) hnb _⟩
  · rcases h with hlt | h
    · exact Fp.min_max_of_key_lt hfa.not_nan hfb.not_nan ((Fp.number_lt_iff F a b).1 hlt)
    · obtain ⟨hzeros, hnb⟩ := hsplit h
      obtain ⟨hzeros, hna⟩ := hsplit hzeros
      obtain ⟨hza, hzb⟩ := hsplit hzeros
      have hk : Fp.key F a = Fp.key F b := by
        rw [Fp.key_eq, Fp.key_eq, beq_iff_eq.1 hza, beq_iff_eq.1 hzb]
        simp
      have hbelow := Fp.below_of_zeros hk hna (hnot hnb)
      exact Fp.min_max_of_below hfa.not_nan hfb.not_nan hbelow.1 hbelow.2
  · obtain ⟨hlow, hhigh⟩ := hfb.key_bounds
    have hkey := Fp.key_of_infinite hia
    have hna := Fp.not_nan_of_infinite hia
    change _ = (if Fp.negative F a then a else b, 0) ∧ _ = (if Fp.negative F a then b else a, 0) ∧
      _ = (if Fp.negative F a then a else b, 0) ∧ _ = (if Fp.negative F a then b else a, 0)
    cases hneg : Fp.negative F a
    · rw [hneg, if_neg Bool.false_ne_true] at hkey
      obtain ⟨h1, h2, h3, h4⟩ := Fp.min_max_of_key_lt hfb.not_nan hna (hkey ▸ hhigh)
      exact ⟨h2, h4, h1, h3⟩
    · rw [hneg, if_pos rfl] at hkey
      obtain ⟨h1, h2, h3, h4⟩ := Fp.min_max_of_key_lt hna hfb.not_nan (hkey ▸ hlow)
      exact ⟨h1, h3, h2, h4⟩
  · have hsel := Fp.select_of_not_nan (hnot h) (hnot h)
    exact ⟨(hsel _).trans (by rw [ite_self]), (hsel _).trans (by rw [ite_self])⟩
  · obtain ⟨hinf, hnb⟩ := hsplit h
    obtain ⟨hinf, hna⟩ := hsplit hinf
    obtain ⟨hia, hib⟩ := hsplit hinf
    have hka := Fp.key_of_infinite hia
    have hkb := Fp.key_of_infinite hib
    rw [if_pos hna] at hka
    have hposb : Fp.negative F b = false := hnot hnb
    rw [hposb, if_neg Bool.false_ne_true] at hkb
    exact Fp.min_max_of_key_lt (Fp.not_nan_of_infinite hia) (Fp.not_nan_of_infinite hib) (by omega)

end Sys2Proof.Machine
end

section
/-!
PROOFS about rounding (O54).

An exact value is cut on a scale: it is rounded to an integer number of units (`Fp.IntRounded`). On the scale of the
result such a rounding is one among the neighbouring patterns (`Fp.Neighbours`), whatever the exponent range. Overflow and
tininess are then statements about where the neighbours of the value lie.
-/
namespace Sys2Proof.Machine

open Sys2Proof

/-! ## The directions of rounding -/

theorem Rounding.excluded_of_inward {rm : Rounding} {neg : Bool} (h : rm.inward neg = true) :
    rm.outward neg = false ∧ rm ≠ .nearestEven ∧ rm ≠ .nearestMax := by
  revert h
  cases rm <;> cases neg <;> decide

theorem Rounding.excluded_of_outward {rm : Rounding} {neg : Bool} (h : rm.outward neg = true) :
    rm.inward neg = false ∧ rm ≠ .nearestEven ∧ rm ≠ .nearestMax := by
  revert h
  cases rm <;> cases neg <;> decide

theorem Rounding.excluded_of_nearest {rm : Rounding} (h : rm = .nearestEven ∨ rm = .nearestMax) (neg : Bool) :
    rm.inward neg = false ∧ rm.outward neg = false := by
  rcases h with rfl | rfl <;> cases neg <;> decide

/-- A mode is directed toward zero, or away from it, or to the nearest. -/
theorem Rounding.directions (rm : Rounding) (neg : Bool) :
    rm.inward neg = true ∨ rm.outward neg = true ∨ (rm = .nearestEven ∨ rm = .nearestMax) := by
  cases rm <;> cases neg <;> decide

/-! ## Rounding to an integer -/

/-- n is x rounded to an integer, for a value of this sign and the magnitude x. -/
structure Fp.IntRounded (rm : Rounding) (neg : Bool) (x : ℚ) (n : Nat) : Prop where
  inward : rm.inward neg = true → (n : ℚ) ≤ x ∧ x < n + 1
  outward : rm.outward neg = true → x ≤ n ∧ (n : ℚ) - 1 < x
  nearest : rm = .nearestEven ∨ rm = .nearestMax → 2 * x ≤ 2 * n + 1 ∧ 2 * (n : ℚ) - 1 ≤ 2 * x
  even : rm = .nearestEven → 2 * x = 2 * n + 1 ∨ 2 * x = 2 * n - 1 → n % 2 = 0
  away : rm = .nearestMax → 2 * x < 2 * n + 1

section

variable {rm : Rounding} {neg : Bool} {x : ℚ} {n : Nat}

theorem Fp.IntRounded.exact (rm : Rounding) (neg : Bool) (n : Nat) : Fp.IntRounded rm neg n n where
  inward _ := ⟨le_rfl, lt_add_one _⟩
  outward _ := ⟨le_rfl, sub_one_lt _⟩
  nearest _ := ⟨by linarith, by linarith⟩
  even _ h := by rcases h with h | h <;> linarith
  away _ := by linarith

theorem Fp.IntRounded.of_inward (h : rm.inward neg = true) (hlo : (n : ℚ) ≤ x) (hhi : x < n + 1) :
    Fp.IntRounded rm neg x n := by
  obtain ⟨hout, heven, hmax⟩ := Rounding.excluded_of_inward h
  exact ⟨fun _ => ⟨hlo, hhi⟩, fun h => absurd h (by simp [hout]), fun h => (h.elim heven hmax).elim,
    fun h => (heven h).elim, fun h => (hmax h).elim⟩

theorem Fp.IntRounded.of_outward (h : rm.outward neg = true) (hhi : x ≤ n) (hlo : (n : ℚ) - 1 < x) :
    Fp.IntRounded rm neg x n := by
  obtain ⟨hin, heven, hmax⟩ := Rounding.excluded_of_outward h
  exact ⟨fun h => absurd h (by simp [hin]), fun _ => ⟨hhi, hlo⟩, fun h => (h.elim heven hmax).elim,
    fun h => (heven h).elim, fun h => (hmax h).elim⟩

theorem Fp.IntRounded.of_nearestEven (hhi : 2 * x ≤ 2 * n + 1) (hlo : 2 * (n : ℚ) - 1 ≤ 2 * x)
    (htie : 2 * x = 2 * n + 1 ∨ 2 * x = 2 * n - 1 → n % 2 = 0) : Fp.IntRounded .nearestEven neg x n := by
  obtain ⟨hin, hout⟩ := Rounding.excluded_of_nearest (rm := .nearestEven) (.inl rfl) neg
  exact ⟨fun h => absurd h (by simp [hin]), fun h => absurd h (by simp [hout]), fun _ => ⟨hhi, hlo⟩, fun _ => htie,
    fun h => nomatch h⟩

theorem Fp.IntRounded.of_nearestMax (hhi : 2 * x < 2 * n + 1) (hlo : 2 * (n : ℚ) - 1 ≤ 2 * x) :
    Fp.IntRounded .nearestMax neg x n := by
  obtain ⟨hin, hout⟩ := Rounding.excluded_of_nearest (rm := .nearestMax) (.inr rfl) neg
  exact ⟨fun h => absurd h (by simp [hin]), fun h => absurd h (by simp [hout]), fun _ => ⟨hhi.le, hlo⟩,
    (fun h => nomatch h), fun _ => hhi⟩

/-- Rounding stays at or above an integer below the value. -/
theorem Fp.IntRounded.le_of_le (h : Fp.IntRounded rm neg x n) {a : Nat} (ha : (a : ℚ) ≤ x) : a ≤ n := by
  have hlt : (a : ℚ) < n + 1 := by
    rcases Rounding.directions rm neg with hd | hd | hd
    · linarith [(h.inward hd).2]
    · linarith [(h.outward hd).1]
    · linarith [(h.nearest hd).1]
  exact Nat.lt_add_one_iff.1 (by exact_mod_cast hlt)

/-- Rounding stays at or below an integer above the value. -/
theorem Fp.IntRounded.le_of_ge (h : Fp.IntRounded rm neg x n) {b : Nat} (hb : x ≤ b) : n ≤ b := by
  have hlt : (n : ℚ) < b + 1 := by
    rcases Rounding.directions rm neg with hd | hd | hd
    · linarith [(h.inward hd).1]
    · linarith [(h.outward hd).2]
    · linarith [(h.nearest hd).2]
  exact Nat.lt_add_one_iff.1 (by exact_mod_cast hlt)

/-- What `roundsUp` adds makes the kept part the rounding of the whole: `rest` of `2 * half` was cut off. -/
theorem Fp.roundsUp_intRounded (rm : Rounding) (neg : Bool) (kept : Nat) {rest half : Nat} (hhalf : 0 < half)
    (hrest : rest < 2 * half) :
    Fp.IntRounded rm neg ((kept : ℚ) + rest / (2 * half : Nat))
      (kept + if Fp.roundsUp rm neg (kept % 2 == 1) rest half then 1 else 0) := by
  have hpos : (0 : ℚ) < (2 * half : Nat) := by positivity
  obtain ⟨r, hr⟩ : ∃ r : ℚ, r = rest / (2 * half : Nat) := ⟨_, rfl⟩
  have h0 : 0 ≤ r := by rw [hr]; positivity
  have h1 : r < 1 := by rw [hr, div_lt_one hpos]; exact_mod_cast hrest
  have hzero : rest = 0 → r = 0 := fun h => by rw [hr, h]; simp
  have hnonzero : rest ≠ 0 → 0 < r := fun h => by rw [hr]; exact div_pos (by positivity) hpos
  have hlt : rest < half → 2 * r < 1 := fun h => by
    rw [hr, mul_div_assoc', div_lt_one hpos]; exact_mod_cast (by omega : 2 * rest < 2 * half)
  have heq : rest = half → 2 * r = 1 := fun h => by
    rw [hr, mul_div_assoc', div_eq_one_iff_eq hpos.ne', h]; push_cast; rfl
  have hgt : half < rest → 1 < 2 * r := fun h => by
    rw [hr, mul_div_assoc', one_lt_div hpos]; exact_mod_cast (by omega : 2 * half < 2 * rest)
  rw [← hr]
  have htrunc : rm.inward neg = true → Fp.IntRounded rm neg (kept + r) (kept + 0) := fun h =>
    .of_inward h (by push_cast; linarith) (by push_cast; linarith)
  have haway : rm.outward neg = true →
      Fp.IntRounded rm neg (kept + r) (kept + if rest != 0 then 1 else 0) := fun h => by
    by_cases hz : rest = 0
    · have := hzero hz
      simp only [hz, bne_self_eq_false, Bool.false_eq_true, ↓reduceIte]
      exact .of_outward h (by push_cast; linarith) (by push_cast; linarith)
    · have := hnonzero hz
      simp only [bne_iff_ne, ne_eq, hz, not_false_eq_true, ↓reduceIte]
      exact .of_outward h (by push_cast; linarith) (by push_cast; linarith)
  cases rm with
  | towardZero => exact htrunc rfl
  | down =>
    cases neg with
    | false => exact htrunc rfl
    | true => exact haway rfl
  | up =>
    cases neg with
    | false => exact haway rfl
    | true => exact htrunc rfl
  | nearestEven =>
    rcases Nat.lt_trichotomy rest half with h | h | h
    · have := hlt h
      simp only [Fp.roundsUp, h.not_gt, decide_false, Bool.false_or, beq_eq_false_iff_ne.2 h.ne, Bool.false_and,
        Bool.false_eq_true, ↓reduceIte]
      refine .of_nearestEven (by push_cast; linarith) (by push_cast; linarith) fun ht => ?_
      push_cast at ht
      rcases ht with ht | ht <;> linarith
    · have := heq h
      cases hodd : kept % 2 == 1
      · have heven : kept % 2 = 0 := by
          have := beq_eq_false_iff_ne.1 hodd
          omega
        simp only [Fp.roundsUp, h, lt_self_iff_false, decide_false, beq_self_eq_true, Bool.and_false, Bool.or_self,
          Bool.false_eq_true, ↓reduceIte]
        exact .of_nearestEven (by push_cast; linarith) (by push_cast; linarith) fun _ => heven
      · have hone := beq_iff_eq.1 hodd
        simp only [Fp.roundsUp, h, lt_self_iff_false, decide_false, beq_self_eq_true, Bool.and_self, Bool.or_true,
          ↓reduceIte]
        exact .of_nearestEven (by push_cast; linarith) (by push_cast; linarith) fun _ => by omega
    · have := hgt h
      simp only [Fp.roundsUp, h, decide_true, Bool.true_or, ↓reduceIte]
      refine .of_nearestEven (by push_cast; linarith) (by push_cast; linarith) fun ht => ?_
      push_cast at ht
      rcases ht with ht | ht <;> linarith
  | nearestMax =>
    rcases Nat.lt_or_ge rest half with h | h
    · have := hlt h
      simp only [Fp.roundsUp, h.not_ge, decide_false, Bool.false_eq_true, ↓reduceIte]
      exact .of_nearestMax (by push_cast; linarith) (by push_cast; linarith)
    · have hge : 1 ≤ 2 * r := by
        rcases h.eq_or_lt with h | h
        · exact (heq h.symm).ge
        · exact (hgt h).le
      simp only [Fp.roundsUp, h, decide_true, ↓reduceIte]
      exact .of_nearestMax (by push_cast; linarith) (by push_cast; linarith)

theorem Fp.roundsUp_exact (rm : Rounding) (neg odd : Bool) {half : Nat} (hhalf : 0 < half) :
    Fp.roundsUp rm neg odd 0 half = false := by
  cases rm <;> simp [Fp.roundsUp, hhalf.ne, hhalf.ne']

/-- Cutting off low bits rounds, and says whether the value was an integer. -/
theorem Fp.cut_spec (rm : Rounding) (neg : Bool) (m shift : Nat) :
    Fp.IntRounded rm neg ((m : ℚ) / 2 ^ shift) (Fp.cut rm neg m shift).1 ∧
    ((Fp.cut rm neg m shift).2 = false ↔ ((Fp.cut rm neg m shift).1 : ℚ) = m / 2 ^ shift) := by
  cases shift with
  | zero => simpa [Fp.cut] using Fp.IntRounded.exact rm neg m
  | succ s =>
    have hpow : 2 ^ (s + 1) = 2 * 2 ^ s := by rw [Nat.pow_succ, Nat.mul_comm]
    have hpos : (0 : ℚ) < 2 ^ (s + 1) := by positivity
    have hrest : m % 2 ^ (s + 1) < 2 * 2 ^ s := hpow ▸ Nat.mod_lt m (Nat.two_pow_pos _)
    have hval : (m : ℚ) / 2 ^ (s + 1) = (m / 2 ^ (s + 1) : Nat) + (m % 2 ^ (s + 1) : Nat) / (2 * 2 ^ s : Nat) := by
      have hsplit : (m : ℚ) = 2 ^ (s + 1) * (m / 2 ^ (s + 1) : Nat) + (m % 2 ^ (s + 1) : Nat) := by
        exact_mod_cast (Nat.div_add_mod m (2 ^ (s + 1))).symm
      rw [← hpow]
      push_cast
      rw [eq_comm, eq_div_iff hpos.ne', add_mul, div_mul_cancel₀ _ hpos.ne', mul_comm]
      exact hsplit.symm
    have hround := Fp.roundsUp_intRounded rm neg (m / 2 ^ (s + 1)) (Nat.two_pow_pos s) hrest
    rw [← hval] at hround
    have hcut : Fp.cut rm neg m (s + 1) =
        (m / 2 ^ (s + 1) + (if Fp.roundsUp rm neg (m / 2 ^ (s + 1) % 2 == 1) (m % 2 ^ (s + 1)) (2 ^ s) then 1 else 0),
          m % 2 ^ (s + 1) != 0) := rfl
    rw [hcut]
    refine ⟨hround, ?_⟩
    rw [bne_eq_false_iff_eq]
    constructor
    · intro h0
      rw [hval, h0, Fp.roundsUp_exact _ _ _ (Nat.two_pow_pos s)]
      simp
    · intro heq
      rw [eq_div_iff hpos.ne'] at heq
      have hmul : (Fp.cut rm neg m (s + 1)).1 * 2 ^ (s + 1) = m := by exact_mod_cast hcut ▸ heq
      rw [← hmul, Nat.mul_mod_left]

/-- m * 2^e on the scale q, rounded, and whether it was on the scale. -/
theorem Fp.toScale_spec (rm : Rounding) (neg : Bool) (m : Nat) (e q : Int) :
    Fp.IntRounded rm neg ((m : ℚ) * 2 ^ (e - q)) (Fp.toScale rm neg m e q).1 ∧
    ((Fp.toScale rm neg m e q).2 = false ↔ ((Fp.toScale rm neg m e q).1 : ℚ) = m * 2 ^ (e - q)) := by
  rw [Fp.toScale]
  split
  · next h =>
    obtain ⟨k, hk⟩ : ∃ k : Nat, e - q = k := ⟨(e - q).toNat, (Int.toNat_of_nonneg (by omega)).symm⟩
    have hval : ((m * 2 ^ k : Nat) : ℚ) = m * 2 ^ (e - q) := by
      rw [hk, zpow_natCast]
      push_cast
      rfl
    rw [← hval, hk, Int.toNat_natCast]
    exact ⟨Fp.IntRounded.exact rm neg _, iff_of_true rfl rfl⟩
  · next h =>
    obtain ⟨k, hk⟩ : ∃ k : Nat, q - e = k := ⟨(q - e).toNat, (Int.toNat_of_nonneg (by omega)).symm⟩
    have hval : (m : ℚ) / 2 ^ k = m * 2 ^ (e - q) := by
      rw [show e - q = -(k : Int) by omega, zpow_neg, zpow_natCast, div_eq_mul_inv]
    rw [← hval, hk, Int.toNat_natCast]
    exact Fp.cut_spec rm neg m k

end

/-! ## Neighbouring patterns -/

/-- The pattern p is the neighbour of v that the mode asks for, infinite and larger patterns counted in. -/
structure Fp.Neighbours (F : Fp.Format) (rm : Rounding) (neg : Bool) (v : ℚ) (p : Nat) : Prop where
  inward : rm.inward neg = true → Fp.magnitude F p ≤ v ∧ v < Fp.magnitude F (p + 1)
  outward : rm.outward neg = true → v ≤ Fp.magnitude F p ∧ (p = 0 ∨ Fp.magnitude F (p - 1) < v)
  nearest : rm = .nearestEven ∨ rm = .nearestMax → 2 * v ≤ Fp.magnitude F p + Fp.magnitude F (p + 1) ∧
    (p = 0 ∨ Fp.magnitude F (p - 1) + Fp.magnitude F p ≤ 2 * v)
  even : rm = .nearestEven → 2 * v = Fp.magnitude F p + Fp.magnitude F (p + 1) ∨
    (p ≠ 0 ∧ Fp.magnitude F (p - 1) + Fp.magnitude F p = 2 * v) → p % 2 = 0
  away : rm = .nearestMax → 2 * v < Fp.magnitude F p + Fp.magnitude F (p + 1)

section

variable {F : Fp.Format} {rm : Rounding} {neg : Bool}

theorem Fp.Known.frac_even (hF : Fp.Known F) : 2 ∣ 2 ^ F.fracBits :=
  dvd_pow_self 2 (by have := hF.bounds.2.1; omega)

/-- The pattern above one put together from a scale and a number: a unit more, or of the next scale. -/
theorem Fp.magnitude_above {k n : Nat} (hn : n ≤ 2 * 2 ^ F.fracBits) (hk : 2 ^ F.fracBits ≤ n ∨ k = 0) :
    Fp.magnitude F (k * 2 ^ F.fracBits + n + 1) = ((n : ℚ) + 1) * 2 ^ (F.minExp + (k : Int)) ∨
    n = 2 * 2 ^ F.fracBits := by
  rcases hn.lt_or_eq with hlt | heq
  · refine .inl ?_
    have h := Fp.magnitude_of_parts F (k := k) (n := n + 1) (by omega) (hk.imp_left (by omega))
    rw [← Nat.add_assoc] at h
    rw [h]
    push_cast
    ring
  · exact .inr heq

/-- The pattern below: a unit less, or of the scale below. -/
theorem Fp.magnitude_below {k n : Nat} (hn : n ≤ 2 * 2 ^ F.fracBits) (hk : 2 ^ F.fracBits ≤ n ∨ k = 0)
    (hp : k * 2 ^ F.fracBits + n ≠ 0) :
    Fp.magnitude F (k * 2 ^ F.fracBits + n - 1) = ((n : ℚ) - 1) * 2 ^ (F.minExp + (k : Int)) ∨
    (n = 2 ^ F.fracBits ∧ k ≠ 0) := by
  have hpos := Fp.fracUnit_pos F
  have hn0 : n ≠ 0 := by
    rintro rfl
    rcases hk with h | rfl
    · omega
    · simp at hp
  by_cases hlow : n = 2 ^ F.fracBits ∧ k ≠ 0
  · exact .inr hlow
  · refine .inl ?_
    obtain ⟨d, rfl⟩ : ∃ d, n = d + 1 := Nat.exists_eq_succ_of_ne_zero hn0
    have h := Fp.magnitude_of_parts F (k := k) (n := d) (by omega) (by omega)
    rw [← Nat.add_assoc, Nat.add_sub_cancel, h]
    push_cast
    ring

/-- Rounding on the scale of the result finds the neighbour. -/
theorem Fp.neighbours_of_intRounded (hF : Fp.Known F) {k n : Nat} {x : ℚ} (h : Fp.IntRounded rm neg x n)
    (hhi : x < 2 * 2 ^ F.fracBits) (hlo : (2 ^ F.fracBits : ℚ) ≤ x ∨ k = 0) :
    Fp.Neighbours F rm neg (x * 2 ^ (F.minExp + (k : Int))) (k * 2 ^ F.fracBits + n) := by
  have hU : (0 : ℚ) < 2 ^ (F.minExp + (k : Int)) := by positivity
  have hn : n ≤ 2 * 2 ^ F.fracBits := h.le_of_ge (by push_cast; exact hhi.le)
  have hk : 2 ^ F.fracBits ≤ n ∨ k = 0 := hlo.imp_left fun hx => h.le_of_le (by push_cast; exact hx)
  have hmag := Fp.magnitude_of_parts F hn hk
  have hmono := Fp.magnitude_strictMono F
  have hup : Fp.magnitude F (k * 2 ^ F.fracBits + n + 1) = ((n : ℚ) + 1) * 2 ^ (F.minExp + (k : Int)) ∨
      (x < n ∧ Fp.magnitude F (k * 2 ^ F.fracBits + n) < Fp.magnitude F (k * 2 ^ F.fracBits + n + 1)) :=
    (Fp.magnitude_above hn hk).imp_right fun heq => ⟨by rw [heq]; push_cast; exact hhi, hmono (Nat.lt_succ_self _)⟩
  have hdown : k * 2 ^ F.fracBits + n ≠ 0 →
      Fp.magnitude F (k * 2 ^ F.fracBits + n - 1) = ((n : ℚ) - 1) * 2 ^ (F.minExp + (k : Int)) ∨
      ((n : ℚ) ≤ x ∧ Fp.magnitude F (k * 2 ^ F.fracBits + n - 1) < Fp.magnitude F (k * 2 ^ F.fracBits + n)) :=
    fun hp => (Fp.magnitude_below hn hk hp).imp_right fun ⟨heq, hk0⟩ =>
      ⟨by rw [heq]; push_cast; exact hlo.resolve_right hk0, hmono (by omega)⟩
  have heven : (k * 2 ^ F.fracBits + n) % 2 = n % 2 := by
    obtain ⟨c, hc⟩ := (hF.frac_even).mul_left k
    rw [hc]
    omega
  obtain ⟨U, hUdef⟩ : ∃ U : ℚ, U = 2 ^ (F.minExp + (k : Int)) := ⟨_, rfl⟩
  rw [← hUdef] at hU hmag hup hdown ⊢
  have hle : ∀ {a b : ℚ}, a ≤ b → a * U ≤ b * U := fun h => mul_le_mul_of_nonneg_right h hU.le
  have hlt : ∀ {a b : ℚ}, a < b → a * U < b * U := fun h => mul_lt_mul_of_pos_right h hU
  generalize k * 2 ^ F.fracBits + n = p at hmag hup hdown heven ⊢
  constructor
  case inward =>
    intro hd
    obtain ⟨h1, h2⟩ := h.inward hd
    refine ⟨hmag ▸ hle h1, ?_⟩
    rcases hup with hup | ⟨hx, -⟩
    · exact hup ▸ hlt h2
    · linarith
  case outward =>
    intro hd
    obtain ⟨h1, h2⟩ := h.outward hd
    refine ⟨hmag ▸ hle h1, or_iff_not_imp_left.2 fun hp => ?_⟩
    rcases hdown hp with hdown | ⟨hx, hlow⟩
    · exact hdown ▸ hlt h2
    · exact hlow.trans_le (hmag ▸ hle hx)
  case nearest =>
    intro hd
    obtain ⟨h1, h2⟩ := h.nearest hd
    refine ⟨?_, or_iff_not_imp_left.2 fun hp => ?_⟩
    · rcases hup with hup | ⟨hx, hhigh⟩
      · have := hle h1
        linarith
      · have := hlt hx
        linarith
    · rcases hdown hp with hdown | ⟨hx, hlow⟩
      · have := hle h2
        linarith
      · have := hle hx
        linarith
  case even =>
    intro hd htie
    rw [heven]
    refine h.even hd ?_
    have hcancel : ∀ {a b : ℚ}, a * U = b * U → a = b := fun h => mul_right_cancel₀ hU.ne' h
    rcases htie with htie | ⟨hp, htie⟩
    · rcases hup with hup | ⟨hx, hhigh⟩
      · exact .inl (hcancel (by linarith))
      · have := hlt hx
        linarith
    · rcases hdown hp with hdown | ⟨hx, hlow⟩
      · exact .inr (hcancel (by linarith))
      · have := hle hx
        linarith
  case away =>
    intro hd
    rcases hup with hup | ⟨hx, hhigh⟩
    · have := hlt (h.away hd)
      linarith
    · have := hlt hx
      linarith

/-! ## Overflow and tininess -/

/-- Rounding with an unbounded exponent leaves the format (R401 c). -/
def Fp.Overflows (F : Fp.Format) (rm : Rounding) (neg : Bool) (v : ℚ) : Prop :=
  (rm.inward neg = true ∧ Fp.magnitude F F.infPattern ≤ v) ∨
  (rm.outward neg = true ∧ Fp.magnitude F (F.infPattern - 1) < v) ∨
  ((rm = .nearestEven ∨ rm = .nearestMax) ∧
    Fp.magnitude F (F.infPattern - 1) + Fp.magnitude F F.infPattern ≤ 2 * v)

/-- v rounded with an unbounded exponent lies below the normal range. -/
def Fp.Tiny (F : Fp.Format) (rm : Rounding) (neg : Bool) (v : ℚ) : Prop :=
  (rm.inward neg = true ∧ v < Fp.magnitude F (2 ^ F.fracBits)) ∨
  (rm.outward neg = true ∧ 2 * v ≤ 2 * Fp.magnitude F (2 ^ F.fracBits) - Fp.magnitude F 1) ∨
  ((rm = .nearestEven ∨ rm = .nearestMax) ∧ 4 * v < 4 * Fp.magnitude F (2 ^ F.fracBits) - Fp.magnitude F 1)

/-- The neighbour is out of the format exactly when there is an overflow. -/
theorem Fp.Neighbours.infPattern_le_iff (hF : Fp.Known F) {v : ℚ} {p : Nat} (h : Fp.Neighbours F rm neg v p) :
    F.infPattern ≤ p ↔ Fp.Overflows F rm neg v := by
  have hmono := Fp.magnitude_strictMono F
  have hle : ∀ {a b}, a ≤ b → Fp.magnitude F a ≤ Fp.magnitude F b := fun hab => hmono.monotone hab
  have hpos := hF.infPattern_pos
  constructor
  · intro hp
    have hp0 : p ≠ 0 := by omega
    rcases Rounding.directions rm neg with hd | hd | hd
    · exact .inl ⟨hd, (hle hp).trans (h.inward hd).1⟩
    · exact .inr (.inl ⟨hd, (hle (by omega)).trans_lt ((h.outward hd).2.resolve_left hp0)⟩)
    · exact .inr (.inr ⟨hd, (add_le_add (hle (by omega)) (hle hp)).trans ((h.nearest hd).2.resolve_left hp0)⟩)
  · rintro (⟨hd, hv⟩ | ⟨hd, hv⟩ | ⟨hd, hv⟩)
    · have := hmono.lt_iff_lt.1 (hv.trans_lt (h.inward hd).2)
      omega
    · have := hmono.lt_iff_lt.1 (hv.trans_le (h.outward hd).1)
      omega
    · by_contra hlt
      have h1 : Fp.magnitude F p ≤ Fp.magnitude F (F.infPattern - 1) := hle (by omega)
      have h2 : Fp.magnitude F (p + 1) ≤ Fp.magnitude F F.infPattern := hle (by omega)
      have hhi := (h.nearest hd).1
      rcases hd with hd | hd
      · have heq : p + 1 = F.infPattern := hmono.injective (by linarith)
        have heven := h.even hd (.inl (by linarith))
        have := hF.infPattern_even
        omega
      · linarith [h.away hd]

theorem Fp.overflowed_eq (F : Fp.Format) (rm : Rounding) (neg : Bool) :
    Fp.overflowed F rm neg = F.withSign neg (if rm.inward neg then F.infPattern - 1 else F.infPattern) := by
  cases rm <;> cases neg <;> rfl

/-- Tininess, judged on the scale of the value's own precision: the value lies below the scales of the format, and does not
round up to the least normal number. -/
theorem Fp.tiny_iff {free : Int} {y : ℚ} {n : Nat} (h : Fp.IntRounded rm neg y n)
    (hlo : (2 ^ F.fracBits : ℚ) ≤ y) (hhi : y < 2 * 2 ^ F.fracBits) :
    (free < F.minExp ∧ ¬ (free + 1 = F.minExp ∧ n = 2 * 2 ^ F.fracBits)) ↔ Fp.Tiny F rm neg (y * 2 ^ free) := by
  have hU : (0 : ℚ) < 2 ^ free := by positivity
  have hP : (1 : ℚ) ≤ 2 ^ F.fracBits := by exact_mod_cast Fp.fracUnit_pos F
  have hn : n ≤ 2 * 2 ^ F.fracBits := h.le_of_ge (by push_cast; exact hhi.le)
  rw [Fp.Tiny, Fp.magnitude_normal, Fp.magnitude_one]
  rcases lt_trichotomy (free + 1) F.minExp with hlt | heq | hgt
  · -- far below: tiny in every mode
    have h4 : (4 : ℚ) * 2 ^ free ≤ 2 ^ F.minExp := by
      have hstep : (4 : ℚ) * 2 ^ free = 2 ^ (free + 2) := by rw [zpow_add₀ (by norm_num)]; ring
      rw [hstep]
      exact zpow_le_zpow_right₀ (by norm_num) (by omega)
    have hv : y * 2 ^ free < 2 * 2 ^ F.fracBits * 2 ^ free := mul_lt_mul_of_pos_right hhi hU
    have hscale : 2 ^ F.fracBits * ((4 : ℚ) * 2 ^ free) ≤ 2 ^ F.fracBits * 2 ^ F.minExp :=
      mul_le_mul_of_nonneg_left h4 (by positivity)
    have hmin : (2 : ℚ) ^ F.minExp ≤ 2 ^ F.fracBits * 2 ^ F.minExp := le_mul_of_one_le_left (by positivity) hP
    refine iff_of_true ⟨by omega, by omega⟩ ?_
    have hmin0 : (0 : ℚ) < 2 ^ F.minExp := by positivity
    rcases Rounding.directions rm neg with hd | hd | hd
    · exact .inl ⟨hd, by linarith⟩
    · exact .inr (.inl ⟨hd, by linarith⟩)
    · exact .inr (.inr ⟨hd, by linarith⟩)
  · -- on the scale below: tiny unless it rounds up to the least normal number
    have hmin : (2 : ℚ) ^ F.minExp = 2 * 2 ^ free := by rw [← heq, zpow_add_one₀ (by norm_num), mul_comm]
    have hcancel : ∀ {a b : ℚ}, a * 2 ^ free < b * 2 ^ free ↔ a < b := mul_lt_mul_iff_left₀ hU
    have hcancel' : ∀ {a b : ℚ}, a * 2 ^ free ≤ b * 2 ^ free ↔ a ≤ b := mul_le_mul_iff_left₀ hU
    have hin : y * 2 ^ free < 2 ^ F.fracBits * (2 * 2 ^ free) ↔ y < 2 * 2 ^ F.fracBits := by
      rw [← hcancel (a := y)]
      ring_nf
    have hout : 2 * (y * 2 ^ free) ≤ 2 * (2 ^ F.fracBits * (2 * 2 ^ free)) - 2 * 2 ^ free ↔
        2 * y ≤ 4 * 2 ^ F.fracBits - 2 := by
      rw [← hcancel' (a := 2 * y)]
      ring_nf
    have hnear : 4 * (y * 2 ^ free) < 4 * (2 ^ F.fracBits * (2 * 2 ^ free)) - 2 * 2 ^ free ↔
        4 * y < 8 * 2 ^ F.fracBits - 2 := by
      rw [← hcancel (a := 4 * y)]
      ring_nf
    rw [hmin, hin, hout, hnear]
    have htop : n = 2 * 2 ^ F.fracBits ↔ (2 * 2 ^ F.fracBits : ℚ) - 1 < n := by
      constructor
      · rintro rfl
        push_cast
        linarith
      · intro hn'
        have : 2 * 2 ^ F.fracBits < n + 1 := by exact_mod_cast (by linarith : (2 * 2 ^ F.fracBits : ℚ) < n + 1)
        omega
    have hfree : free < F.minExp := by omega
    have hcast : n ≠ 2 * 2 ^ F.fracBits → (n : ℚ) ≤ 2 * 2 ^ F.fracBits - 1 := fun hne => not_lt.1 (mt htop.2 hne)
    simp only [hfree, heq, true_and]
    rcases Rounding.directions rm neg with hd | hd | hd
    · have hn1 := (h.inward hd).1
      refine iff_of_true (fun heq => ?_) (.inl ⟨hd, hhi⟩)
      rw [heq] at hn1
      push_cast at hn1
      linarith
    · obtain ⟨h1, h2⟩ := h.outward hd
      obtain ⟨hnin, hne, hnm⟩ := Rounding.excluded_of_outward hd
      have hdir : ((rm.inward neg = true ∧ y < 2 * 2 ^ F.fracBits) ∨
          (rm.outward neg = true ∧ 2 * y ≤ 4 * 2 ^ F.fracBits - 2) ∨
          ((rm = .nearestEven ∨ rm = .nearestMax) ∧ 4 * y < 8 * 2 ^ F.fracBits - 2)) ↔
          2 * y ≤ 4 * 2 ^ F.fracBits - 2 := by simp [hd, hnin, hne, hnm]
      rw [hdir]
      constructor
      · intro hne
        linarith [hcast hne]
      · rintro hy rfl
        push_cast at h2
        linarith
    · obtain ⟨hnin, hnout⟩ := Rounding.excluded_of_nearest hd neg
      obtain ⟨h1, h2⟩ := h.nearest hd
      have hdir : ((rm.inward neg = true ∧ y < 2 * 2 ^ F.fracBits) ∨
          (rm.outward neg = true ∧ 2 * y ≤ 4 * 2 ^ F.fracBits - 2) ∨
          ((rm = .nearestEven ∨ rm = .nearestMax) ∧ 4 * y < 8 * 2 ^ F.fracBits - 2)) ↔
          4 * y < 8 * 2 ^ F.fracBits - 2 := by simp [hd, hnin, hnout]
      rw [hdir]
      constructor
      · intro hne
        have hle := hcast hne
        refine lt_of_le_of_ne (by linarith) fun htie => ?_
        rcases hd with hd | hd
        · have hneq : (n : ℚ) = 2 * 2 ^ F.fracBits - 1 := by linarith
          have heven := h.even hd (.inl (by linarith))
          have hnat : n + 1 = 2 * 2 ^ F.fracBits := by exact_mod_cast (by linarith : (n : ℚ) + 1 = 2 * 2 ^ F.fracBits)
          omega
        · have := h.away hd
          linarith
      · rintro hy rfl
        push_cast at h2
        linarith
  · -- on the scales of the format: in no mode tiny
    have hmin : (2 : ℚ) ^ F.minExp ≤ 2 ^ free := zpow_le_zpow_right₀ (by norm_num) (by omega)
    have hv : (2 : ℚ) ^ F.fracBits * 2 ^ free ≤ y * 2 ^ free := mul_le_mul_of_nonneg_right hlo hU.le
    have hscale : (2 : ℚ) ^ F.fracBits * 2 ^ F.minExp ≤ 2 ^ F.fracBits * 2 ^ free :=
      mul_le_mul_of_nonneg_left hmin (by positivity)
    have hmin0 : (0 : ℚ) < 2 ^ F.minExp := by positivity
    refine iff_of_false (fun h => by omega) ?_
    rintro (⟨-, hv'⟩ | ⟨-, hv'⟩ | ⟨-, hv'⟩) <;> linarith

/-! ## Rounding to the format -/

/-- A neighbour in the format with the flags it asks for is the rounded value. -/
theorem Fp.rounded_of_neighbours (hF : Fp.Known F) {v : ℚ} {p : Nat} {fl : BitVec 5}
    (h : Fp.Neighbours F rm neg v p) (hp : p < F.infPattern) (hexact : Fp.magnitude F p = v → fl = 0)
    (htiny : Fp.magnitude F p ≠ v → Fp.Tiny F rm neg v → fl = flagUF ||| flagNX)
    (hinexact : Fp.magnitude F p ≠ v → ¬ Fp.Tiny F rm neg v → fl = flagNX) :
    Fp.Rounded F rm neg v (F.withSign neg p, fl) := by
  have hno : ¬ Fp.Overflows F rm neg v := fun ho => hp.not_ge ((h.infPattern_le_iff hF).2 ho)
  have hmod := Fp.withSign_mod neg (hp.trans (Fp.infPattern_lt F))
  rw [Fp.Rounded]
  simp only [hmod]
  exact ⟨fun ho => absurd ho hno, fun _ => ⟨hp, trivial, h.inward, h.outward, h.nearest, h.even, h.away, hexact, htiny,
    hinexact⟩⟩

theorem Fp.rounded_of_overflow (hF : Fp.Known F) {v : ℚ} {p : Nat} (h : Fp.Neighbours F rm neg v p)
    (hp : F.infPattern ≤ p) : Fp.Rounded F rm neg v (Fp.overflowed F rm neg, flagOF ||| flagNX) := by
  rw [Fp.overflowed_eq]
  exact ⟨fun _ => rfl, fun hno => absurd ((h.infPattern_le_iff hF).1 hp) hno⟩

/-- The flags of a result in the format. -/
theorem Fp.flags_eq (tiny inexact : Bool) :
    flagIf inexact flagNX ||| flagIf (tiny && inexact) flagUF =
      if inexact then (if tiny then flagUF ||| flagNX else flagNX) else 0 := by
  cases tiny <;> cases inexact <;> decide

/-- Rounding is correct: the tie to the exact value is on the scale of the result. -/
theorem Fp.round_rounded (hF : Fp.Known F) {m : Nat} (hm : m ≠ 0) (e : Int) :
    Fp.Rounded F rm neg ((m : ℚ) * 2 ^ e) (Fp.round F rm neg m e) := by
  have h2 : (2 : ℚ) ≠ 0 := by norm_num
  obtain ⟨free, hfree⟩ : ∃ free : Int, free = e + (Nat.log2 m + 1 : Nat) - F.prec := ⟨_, rfl⟩
  obtain ⟨q, hq⟩ : ∃ q : Int, q = Max.max free F.minExp := ⟨_, rfl⟩
  obtain ⟨k, hk⟩ : ∃ k : Nat, q = F.minExp + k := ⟨(q - F.minExp).toNat, by omega⟩
  have hprec : (F.prec : Int) = F.fracBits + 1 := by rw [Fp.Format.prec]; push_cast; rfl
  -- the significand at full precision
  have hexp : e - free = (F.fracBits : Int) - (Nat.log2 m : Nat) := by rw [hfree, hprec]; push_cast; ring
  have hlo : (2 ^ F.fracBits : ℚ) ≤ m * 2 ^ (e - free) := by
    have hlog : ((2 : ℚ) ^ Nat.log2 m) ≤ m := by exact_mod_cast Nat.log2_self_le hm
    rw [hexp, zpow_sub₀ h2, zpow_natCast, zpow_natCast, mul_div_assoc', le_div_iff₀ (by positivity), mul_comm]
    exact mul_le_mul_of_nonneg_right hlog (by positivity)
  have hhi : (m : ℚ) * 2 ^ (e - free) < 2 * 2 ^ F.fracBits := by
    have hlog : (m : ℚ) < 2 * 2 ^ Nat.log2 m := by
      rw [← pow_succ']
      exact_mod_cast Nat.lt_log2_self
    rw [hexp, zpow_sub₀ h2, zpow_natCast, zpow_natCast, mul_div_assoc', div_lt_iff₀ (by positivity)]
    calc (m : ℚ) * 2 ^ F.fracBits < 2 * 2 ^ Nat.log2 m * 2 ^ F.fracBits := mul_lt_mul_of_pos_right hlog (by positivity)
      _ = 2 * 2 ^ F.fracBits * 2 ^ Nat.log2 m := by ring
  -- the value on the scale of the result
  have hhi' : (m : ℚ) * 2 ^ (e - q) < 2 * 2 ^ F.fracBits := by
    refine lt_of_le_of_lt (mul_le_mul_of_nonneg_left ?_ (by positivity)) hhi
    exact zpow_le_zpow_right₀ (by norm_num) (by omega)
  have hlo' : (2 ^ F.fracBits : ℚ) ≤ m * 2 ^ (e - q) ∨ k = 0 := by
    rcases le_total free F.minExp with hle | hle
    · exact .inr (by omega)
    · rw [hq, max_eq_left hle]
      exact .inl hlo
  have hval : ∀ r : Int, (m : ℚ) * 2 ^ (e - r) * 2 ^ r = m * 2 ^ e := fun r => by
    rw [mul_assoc, ← zpow_add₀ h2, Int.sub_add_cancel]
  obtain ⟨hround, hex⟩ := Fp.toScale_spec rm neg m e q
  have htiny := Fp.tiny_iff (free := free) (Fp.toScale_spec rm neg m e free).1 hlo hhi
  have hnb := Fp.neighbours_of_intRounded hF hround hhi' hlo'
  rw [← hk, hval] at hnb
  rw [hval] at htiny
  have hmag := Fp.magnitude_of_parts F (hround.le_of_ge (by push_cast; exact hhi'.le))
    (hlo'.imp_left fun hx => hround.le_of_le (by push_cast; exact hx))
  rw [← hk] at hmag
  have hexact : Fp.magnitude F (k * 2 ^ F.fracBits + (Fp.toScale rm neg m e q).1) = m * 2 ^ e ↔
      (Fp.toScale rm neg m e q).2 = false := by
    rw [hmag, hex, ← hval q]
    exact mul_left_inj' (zpow_ne_zero _ h2)
  have htop : 2 ^ F.prec = 2 * 2 ^ F.fracBits := by rw [Fp.Format.prec, Nat.pow_succ, Nat.mul_comm]
  have hshift : (q - F.minExp).toNat = k := by omega
  rw [Fp.round, if_neg hm]
  simp only [← hfree, ← hq, hshift, htop]
  split
  · next hover => exact Fp.rounded_of_overflow hF hnb hover
  · next hin =>
    rw [Fp.flags_eq]
    refine Fp.rounded_of_neighbours hF hnb (not_le.1 hin) (fun h => ?_) (fun h ht => ?_) (fun h ht => ?_)
    · rw [hexact.1 h]
      rfl
    · have hb : (Fp.toScale rm neg m e q).2 = true := by simpa using mt hexact.2 h
      have ht' := htiny.2 ht
      rw [hb, if_pos rfl, if_pos]
      simpa [imp_iff_not_or] using ht'
    · have hb : (Fp.toScale rm neg m e q).2 = true := by simpa using mt hexact.2 h
      have ht' := mt htiny.1 ht
      rw [hb, if_pos rfl, if_neg]
      simpa [imp_iff_not_or] using ht'

end

/-- Settles O54. -/
theorem roundingIsCorrect : Obligations.RoundingIsCorrect := by
  unfold Obligations.RoundingIsCorrect
  intro F rm neg m e hF hm
  exact Fp.round_rounded hF hm e

end Sys2Proof.Machine
end

section
/-!
PROOFS about arithmetic (O55): sums, products, quotients and conversions are the exact result rounded once.

A sum or a product is exact before it is rounded. A quotient is not: its bits below the grid 2^j are replaced by one bit
that says whether there are any. The value it stands for is told from the quotient by no bound that rounding compares it
with (`Fp.Threshold`), since those have too few bits to lie strictly between two points of the grid.
-/
namespace Sys2Proof.Machine

open Sys2Proof

section

variable {F : Fp.Format} {rm : Rounding} {neg : Bool}

/-! ## The bounds that rounding compares with -/

/-- A number of at most two bits more than the fraction has. -/
def Fp.Threshold (F : Fp.Format) (t : ℚ) : Prop := ∃ (s : Nat) (k : Int), s < 4 * 2 ^ F.fracBits ∧ t = s * 2 ^ k

theorem Fp.threshold_magnitude (p : Nat) : Fp.Threshold F (Fp.magnitude F p) := by
  obtain ⟨hlt, -⟩ := Fp.significand_bounds F p
  exact ⟨_, _, by omega, Fp.magnitude_eq F p⟩

/-- The middle between two neighbours. -/
theorem Fp.threshold_middle (p : Nat) :
    Fp.Threshold F ((Fp.magnitude F p + Fp.magnitude F (p + 1)) / 2) := by
  obtain ⟨hlt, -⟩ := Fp.significand_bounds F p
  refine ⟨2 * Fp.significand F p + 1, F.minExp + (Fp.scaleOf F p : Int) - 1, by omega, ?_⟩
  rw [Fp.magnitude_succ, Fp.magnitude_eq, zpow_sub_one₀ (by norm_num)]
  push_cast
  ring

theorem Fp.threshold_middle_below {p : Nat} (hp : p ≠ 0) :
    Fp.Threshold F ((Fp.magnitude F (p - 1) + Fp.magnitude F p) / 2) := by
  have h := Fp.threshold_middle (F := F) (p - 1)
  rwa [Nat.sub_add_cancel (Nat.one_le_iff_ne_zero.2 hp)] at h

/-- The bounds of tininess, half and a quarter of the least unit below the normal numbers. -/
theorem Fp.threshold_tiny :
    Fp.Threshold F (Fp.magnitude F (2 ^ F.fracBits) - Fp.magnitude F 1 / 2) ∧
    Fp.Threshold F (Fp.magnitude F (2 ^ F.fracBits) - Fp.magnitude F 1 / 4) := by
  have hpos := Fp.fracUnit_pos F
  rw [Fp.magnitude_normal, Fp.magnitude_one]
  constructor
  · refine ⟨2 * 2 ^ F.fracBits - 1, F.minExp - 1, by omega, ?_⟩
    rw [zpow_sub_one₀ (by norm_num), Nat.cast_sub (by omega)]
    push_cast
    ring
  · refine ⟨4 * 2 ^ F.fracBits - 1, F.minExp - 2, by omega, ?_⟩
    rw [zpow_sub₀ (by norm_num), Nat.cast_sub (by omega)]
    push_cast
    ring

/-- No bound of rounding tells the two values apart. -/
def Fp.Alike (F : Fp.Format) (v w : ℚ) : Prop := ∀ t, Fp.Threshold F t → ((t ≤ v ↔ t ≤ w) ∧ (t < v ↔ t < w))

theorem Fp.Alike.symm {v w : ℚ} (h : Fp.Alike F v w) : Fp.Alike F w v := fun t ht =>
  ⟨(h t ht).1.symm, (h t ht).2.symm⟩

section

variable {v w : ℚ} (h : Fp.Alike F v w)

include h

theorem Fp.Alike.magnitude_le {p : Nat} : Fp.magnitude F p ≤ v ↔ Fp.magnitude F p ≤ w :=
  (h _ (Fp.threshold_magnitude p)).1

theorem Fp.Alike.magnitude_lt {p : Nat} : Fp.magnitude F p < v ↔ Fp.magnitude F p < w :=
  (h _ (Fp.threshold_magnitude p)).2

theorem Fp.Alike.le_magnitude {p : Nat} : v ≤ Fp.magnitude F p ↔ w ≤ Fp.magnitude F p := by
  rw [← not_lt, h.magnitude_lt, not_lt]

theorem Fp.Alike.lt_magnitude {p : Nat} : v < Fp.magnitude F p ↔ w < Fp.magnitude F p := by
  rw [← not_le, h.magnitude_le, not_le]

theorem Fp.Alike.magnitude_eq {p : Nat} : Fp.magnitude F p = v ↔ Fp.magnitude F p = w := by
  rw [le_antisymm_iff, le_antisymm_iff, h.magnitude_le, h.le_magnitude]

/-- Half of a sum that is a bound is compared alike. -/
theorem Fp.Alike.double {u : ℚ} (hu : Fp.Threshold F (u / 2)) :
    (u ≤ 2 * v ↔ u ≤ 2 * w) ∧ (u < 2 * v ↔ u < 2 * w) := by
  obtain ⟨h1, h2⟩ := h _ hu
  rw [div_le_iff₀' two_pos, div_le_iff₀' two_pos] at h1
  rw [div_lt_iff₀' two_pos, div_lt_iff₀' two_pos] at h2
  exact ⟨h1, h2⟩

theorem Fp.Alike.double_ge {u : ℚ} (hu : Fp.Threshold F (u / 2)) :
    (2 * v ≤ u ↔ 2 * w ≤ u) ∧ (2 * v < u ↔ 2 * w < u) ∧ (2 * v = u ↔ 2 * w = u) := by
  obtain ⟨h1, h2⟩ := h.double hu
  have hge : 2 * v ≤ u ↔ 2 * w ≤ u := by rw [← not_lt, h2, not_lt]
  exact ⟨hge, by rw [← not_le, h1, not_le], by rw [le_antisymm_iff, le_antisymm_iff, hge, h1]⟩

theorem Fp.Alike.neighbours {p : Nat} (hn : Fp.Neighbours F rm neg v p) : Fp.Neighbours F rm neg w p where
  inward hd := (hn.inward hd).imp h.magnitude_le.1 h.lt_magnitude.1
  outward hd := (hn.outward hd).imp h.le_magnitude.1 (Or.imp_right h.magnitude_lt.1)
  nearest hd := by
    obtain ⟨h1, h2⟩ := hn.nearest hd
    refine ⟨(h.double_ge (Fp.threshold_middle p)).1.1 h1, or_iff_not_imp_left.2 fun hp => ?_⟩
    exact (h.double (Fp.threshold_middle_below hp)).1.1 (h2.resolve_left hp)
  even hd htie := by
    refine hn.even hd (htie.imp (h.double_ge (Fp.threshold_middle p)).2.2.2 fun ⟨hp, heq⟩ => ⟨hp, ?_⟩)
    exact ((h.double_ge (Fp.threshold_middle_below hp)).2.2.2 heq.symm).symm
  away hd := (h.double_ge (Fp.threshold_middle p)).2.1.1 (hn.away hd)

theorem Fp.Alike.overflows (hF : Fp.Known F) : Fp.Overflows F rm neg v ↔ Fp.Overflows F rm neg w := by
  rw [Fp.Overflows, Fp.Overflows, h.magnitude_le, h.magnitude_lt,
    (h.double (Fp.threshold_middle_below hF.infPattern_pos.ne')).1]

theorem Fp.Alike.tiny : Fp.Tiny F rm neg v ↔ Fp.Tiny F rm neg w := by
  obtain ⟨hhalf, hquarter⟩ := Fp.threshold_tiny (F := F)
  have hout : ∀ u : ℚ, 2 * u ≤ 2 * Fp.magnitude F (2 ^ F.fracBits) - Fp.magnitude F 1 ↔
      ¬ Fp.magnitude F (2 ^ F.fracBits) - Fp.magnitude F 1 / 2 < u := fun u => by
    rw [not_lt]
    constructor <;> intro hu <;> linarith
  have hnear : ∀ u : ℚ, 4 * u < 4 * Fp.magnitude F (2 ^ F.fracBits) - Fp.magnitude F 1 ↔
      ¬ Fp.magnitude F (2 ^ F.fracBits) - Fp.magnitude F 1 / 4 ≤ u := fun u => by
    rw [not_le]
    constructor <;> intro hu <;> linarith
  rw [Fp.Tiny, Fp.Tiny, h.lt_magnitude, hout, hout, hnear, hnear, (h _ hhalf).2, (h _ hquarter).1]

end

/-- The parts of `Fp.Rounded`: the overflow, the neighbour, the flags. -/
theorem Fp.rounded_iff {v : ℚ} {r : Nat × BitVec 5} :
    Fp.Rounded F rm neg v r ↔
      (Fp.Overflows F rm neg v →
        r = (F.withSign neg (if rm.inward neg then F.infPattern - 1 else F.infPattern), flagOF ||| flagNX)) ∧
      (¬ Fp.Overflows F rm neg v → r.1 % F.signBit < F.infPattern ∧ r.1 = F.withSign neg (r.1 % F.signBit) ∧
        Fp.Neighbours F rm neg v (r.1 % F.signBit) ∧ (Fp.magnitude F (r.1 % F.signBit) = v → r.2 = 0) ∧
        (Fp.magnitude F (r.1 % F.signBit) ≠ v → Fp.Tiny F rm neg v → r.2 = flagUF ||| flagNX) ∧
        (Fp.magnitude F (r.1 % F.signBit) ≠ v → ¬ Fp.Tiny F rm neg v → r.2 = flagNX)) := by
  constructor
  · rintro ⟨hover, hin⟩
    refine ⟨hover, fun hno => ?_⟩
    obtain ⟨hp, hsign, h1, h2, h3, h4, h5, hexact, htiny, hinexact⟩ := hin hno
    exact ⟨hp, hsign, ⟨h1, h2, h3, h4, h5⟩, hexact, htiny, hinexact⟩
  · rintro ⟨hover, hin⟩
    refine ⟨hover, fun hno => ?_⟩
    obtain ⟨hp, hsign, hn, hexact, htiny, hinexact⟩ := hin hno
    exact ⟨hp, hsign, hn.inward, hn.outward, hn.nearest, hn.even, hn.away, hexact, htiny, hinexact⟩

/-- Values that no bound tells apart round alike. -/
theorem Fp.Rounded.of_alike (hF : Fp.Known F) {v w : ℚ} (h : Fp.Alike F v w) {r : Nat × BitVec 5}
    (hr : Fp.Rounded F rm neg v r) : Fp.Rounded F rm neg w r := by
  rw [Fp.rounded_iff, ← h.overflows hF, ← h.tiny]
  obtain ⟨hover, hin⟩ := Fp.rounded_iff.1 hr
  refine ⟨hover, fun hno => ?_⟩
  obtain ⟨hp, hsign, hn, hexact, htiny, hinexact⟩ := hin hno
  exact ⟨hp, hsign, h.neighbours hn, fun heq => hexact (h.magnitude_eq.2 heq),
    fun hne => htiny (mt h.magnitude_eq.1 hne), fun hne => hinexact (mt h.magnitude_eq.1 hne)⟩

/-! ## Results with a last bit for what was cut off -/

/-- A bound is a point of the grid 2^j, or lies below every value that has enough bits on it. -/
theorem Fp.Threshold.grid {t : ℚ} (h : Fp.Threshold F t) {r : Nat} (hr : 2 * 2 ^ F.fracBits ≤ r) (j : Int) :
    (∃ c : Nat, t = c * 2 ^ j) ∨ t < r * 2 ^ j := by
  obtain ⟨s, k, hs, rfl⟩ := h
  rcases le_or_gt j k with hjk | hkj
  · refine .inl ⟨s * 2 ^ (k - j).toNat, ?_⟩
    have hpow : (2 : ℚ) ^ k = 2 ^ (k - j).toNat * 2 ^ j := by
      rw [← zpow_natCast, Int.toNat_of_nonneg (by omega), ← zpow_add₀ (by norm_num), Int.sub_add_cancel]
    rw [hpow]
    push_cast
    ring
  · refine .inr ?_
    have hk : (2 : ℚ) ^ k ≤ 2 ^ (j - 1) := zpow_le_zpow_right₀ (by norm_num) (by omega)
    have hj : (2 : ℚ) ^ j = 2 * 2 ^ (j - 1) := by rw [zpow_sub_one₀ (by norm_num)]; ring
    have hs' : (s : ℚ) < 2 * r := by exact_mod_cast (by omega : s < 2 * r)
    have hpos : (0 : ℚ) < 2 ^ (j - 1) := by positivity
    calc (s : ℚ) * 2 ^ k ≤ s * 2 ^ (j - 1) := mul_le_mul_of_nonneg_left hk (by positivity)
      _ < 2 * r * 2 ^ (j - 1) := mul_lt_mul_of_pos_right hs' hpos
      _ = r * 2 ^ j := by rw [hj]; ring

/-- r and a last bit, as a value on the grid 2^j. -/
def Fp.sticky (r : Nat) (more : Bool) (j : Int) : ℚ := ((2 * r + (if more then 1 else 0) : Nat) : ℚ) * 2 ^ (j - 1)

theorem Fp.sticky_eq (r : Nat) (more : Bool) (j : Int) :
    Fp.sticky r more j = (r + (if more then 1 / 2 else 0)) * 2 ^ j := by
  have hj : (2 : ℚ) ^ j = 2 * 2 ^ (j - 1) := by rw [zpow_sub_one₀ (by norm_num)]; ring
  rw [Fp.sticky, hj]
  cases more
  · simp only [Bool.false_eq_true, ↓reduceIte]
    push_cast
    ring
  · simp only [↓reduceIte]
    push_cast
    ring

/-- A point of the grid against such a value. -/
theorem Fp.grid_sticky (c r : Nat) (more : Bool) (j : Int) :
    ((c : ℚ) * 2 ^ j ≤ Fp.sticky r more j ↔ c ≤ r) ∧
    ((c : ℚ) * 2 ^ j < Fp.sticky r more j ↔ c < r ∨ (c = r ∧ more = true)) := by
  have hpos : (0 : ℚ) < 2 ^ j := by positivity
  rw [Fp.sticky_eq, mul_le_mul_iff_left₀ hpos, mul_lt_mul_iff_left₀ hpos]
  rcases Nat.lt_trichotomy c r with h | h | h
  · have hc : (c : ℚ) + 1 ≤ r := by exact_mod_cast h
    have hge : (0 : ℚ) ≤ if more = true then 1 / 2 else 0 := by split <;> norm_num
    exact ⟨iff_of_true (by linarith) h.le, iff_of_true (by linarith) (.inl h)⟩
  · subst h
    cases more <;> simp
  · have hc : (r : ℚ) + 1 ≤ c := by exact_mod_cast h
    have hle : (if more = true then 1 / 2 else 0 : ℚ) ≤ 1 / 2 := by split <;> norm_num
    exact ⟨iff_of_false (by linarith) (by omega), iff_of_false (by linarith) (by omega)⟩

theorem Fp.le_sticky (r : Nat) (more : Bool) (j : Int) : (r : ℚ) * 2 ^ j ≤ Fp.sticky r more j :=
  (Fp.grid_sticky r r more j).1.2 le_rfl

/-- A quotient and the value that stands for it. -/
theorem Fp.alike_quotient {n d : Nat} (hd : d ≠ 0) (hn : 2 * 2 ^ F.fracBits ≤ n / d) (j : Int) :
    Fp.Alike F (Fp.sticky (n / d) (n % d != 0) j) ((n : ℚ) / d * 2 ^ j) := by
  have hd0 : (0 : ℚ) < d := by exact_mod_cast Nat.pos_of_ne_zero hd
  have hpos : (0 : ℚ) < 2 ^ j := by positivity
  intro t ht
  rcases ht.grid hn j with ⟨c, rfl⟩ | hlt
  · obtain ⟨h1, h2⟩ := Fp.grid_sticky c (n / d) (n % d != 0) j
    rw [h1, h2, mul_le_mul_iff_left₀ hpos, mul_lt_mul_iff_left₀ hpos, le_div_iff₀ hd0, lt_div_iff₀ hd0]
    norm_cast
    have hsplit := Nat.div_add_mod n d
    rw [Nat.mul_comm] at hsplit
    constructor
    · exact Nat.le_div_iff_mul_le (Nat.pos_of_ne_zero hd)
    · rcases Nat.lt_trichotomy c (n / d) with h | h | h
      · have hmul : c * d < n / d * d := Nat.mul_lt_mul_of_pos_right h (Nat.pos_of_ne_zero hd)
        exact iff_of_true (.inl h) (by omega)
      · subst h
        simp only [lt_self_iff_false, true_and, false_or, bne_iff_ne, ne_eq]
        omega
      · have hmul := (Nat.div_lt_iff_lt_mul (Nat.pos_of_ne_zero hd)).1 h
        exact iff_of_false (by omega) (by omega)
  · have hfloor : ((n / d : Nat) : ℚ) * 2 ^ j ≤ (n : ℚ) / d * 2 ^ j :=
      mul_le_mul_of_nonneg_right Nat.cast_div_le hpos.le
    have hst := Fp.le_sticky (n / d) (n % d != 0) j
    exact ⟨iff_of_true (hlt.le.trans hst) (hlt.le.trans hfloor), iff_of_true (hlt.trans_le hst) (hlt.trans_le hfloor)⟩

/-! ## Signed values -/

/-- A magnitude with a sign. -/
def Fp.signed (neg : Bool) (v : ℚ) : ℚ := if neg then -v else v

theorem Fp.signed_mul (n1 n2 : Bool) (u v : ℚ) : Fp.signed n1 u * Fp.signed n2 v = Fp.signed (n1 != n2) (u * v) := by
  cases n1 <;> cases n2 <;> simp [Fp.signed]

theorem Fp.signed_div (n1 n2 : Bool) (u v : ℚ) : Fp.signed n1 u / Fp.signed n2 v = Fp.signed (n1 != n2) (u / v) := by
  cases n1 <;> cases n2 <;> simp [Fp.signed, neg_div, div_neg]

theorem Fp.signed_eq_zero_iff (n : Bool) (v : ℚ) : Fp.signed n v = 0 ↔ v = 0 := by
  cases n <;> simp [Fp.signed]

theorem Fp.signed_of_pos (n : Bool) {v : ℚ} (h : 0 < v) :
    decide (Fp.signed n v < 0) = n ∧ |Fp.signed n v| = v := by
  cases n
  · simp [Fp.signed, h.le, abs_of_pos h]
  · simp [Fp.signed, h, abs_of_pos h]

/-- A finite operand: how it is read, and its number. -/
theorem Fp.read_finite {a : Nat} (h : Fp.finite F a) :
    ∃ m e, Fp.unpack F a = .fin (Fp.negative F a) m e ∧
      Fp.number F a = Fp.signed (Fp.negative F a) ((m : ℚ) * 2 ^ e) := by
  obtain ⟨m, e, hu, hmag, -⟩ := Fp.unpack_finite h
  refine ⟨m, e, hu, ?_⟩
  rw [Fp.number_eq, ← hmag]
  rfl

/-! ## The exact result, rounded -/

/-- r is v rounded with its sign, or the given zero. -/
def Fp.RoundsTo (F : Fp.Format) (rm : Rounding) (v : ℚ) (zero r : Nat × BitVec 5) : Prop :=
  (v ≠ 0 → Fp.Rounded F rm (decide (v < 0)) |v| r) ∧ (v = 0 → r = zero)

theorem Fp.round_roundsTo (hF : Fp.Known F) (rm : Rounding) (neg : Bool) (m : Nat) (e : Int) :
    Fp.RoundsTo F rm (Fp.signed neg ((m : ℚ) * 2 ^ e)) (F.withSign neg 0, 0) (Fp.round F rm neg m e) := by
  rw [Fp.RoundsTo, Ne, Fp.signed_eq_zero_iff]
  have hzero : (m : ℚ) * 2 ^ e = 0 ↔ m = 0 := by simp [zpow_ne_zero]
  rw [hzero]
  constructor
  · intro hm
    have hpos : (0 : ℚ) < m * 2 ^ e := mul_pos (by exact_mod_cast Nat.pos_of_ne_zero hm) (by positivity)
    obtain ⟨hsign, habs⟩ := Fp.signed_of_pos neg hpos
    rw [hsign, habs]
    exact Fp.round_rounded hF hm e
  · rintro rfl
    rfl

/-- Both operands of a sum on the lower of their scales. -/
theorem Fp.signed_on_scale (neg : Bool) (m : Nat) {e e' : Int} (h : e' ≤ e) :
    Fp.signed neg ((m : ℚ) * 2 ^ e) =
      ((if neg then -((m * 2 ^ (e - e').toNat : Nat) : Int) else ((m * 2 ^ (e - e').toNat : Nat) : Int) : Int) : ℚ) *
        2 ^ e' := by
  have hpow : (2 : ℚ) ^ e = 2 ^ (e - e').toNat * 2 ^ e' := by
    rw [← zpow_natCast, Int.toNat_of_nonneg (by omega), ← zpow_add₀ (by norm_num), Int.sub_add_cancel]
  rw [hpow]
  cases neg
  · simp only [Fp.signed, Bool.false_eq_true, ↓reduceIte]
    push_cast
    ring
  · simp only [Fp.signed, ↓reduceIte]
    push_cast
    ring

/-- A sum is rounded once; an exact zero has the sign of its terms, or the one the mode gives it. -/
theorem Fp.addFinite_roundsTo (hF : Fp.Known F) (rm : Rounding) (na nb : Bool) (ma mb : Nat) (ea eb : Int) :
    Fp.RoundsTo F rm (Fp.signed na ((ma : ℚ) * 2 ^ ea) + Fp.signed nb ((mb : ℚ) * 2 ^ eb))
      (F.withSign (if na = nb then na else rm == .down) 0, 0) (Fp.addFinite F rm na ma ea nb mb eb) := by
  rw [Fp.signed_on_scale na ma (e' := Min.min ea eb) (by omega),
    Fp.signed_on_scale nb mb (e' := Min.min ea eb) (by omega), ← add_mul, ← Int.cast_add, Fp.addFinite]
  generalize (if na = true then _ else _ : Int) + (if nb = true then _ else _ : Int) = sum
  generalize Min.min ea eb = e
  have hpos : (0 : ℚ) < 2 ^ e := by positivity
  have hsum : (sum : ℚ) * 2 ^ e = Fp.signed (decide (sum < 0)) ((sum.natAbs : ℚ) * 2 ^ e) := by
    rw [Nat.cast_natAbs, Fp.signed]
    rcases lt_or_ge sum 0 with h | h
    · simp [h, abs_of_neg h]
    · simp [h.not_gt, abs_of_nonneg h]
  by_cases h0 : sum = 0
  · rw [if_pos h0, h0]
    exact ⟨fun h => absurd (by simp) h, fun _ => rfl⟩
  · rw [if_neg h0, hsum]
    have hround := Fp.round_roundsTo hF rm (decide (sum < 0)) sum.natAbs e
    exact ⟨hround.1, fun h => absurd h (by rw [← hsum]; exact mul_ne_zero (by exact_mod_cast h0) hpos.ne')⟩

/-- The bits of a quotient that rounding is given are enough. -/
theorem Fp.divShift_enough {ma mb : Nat} (ha : ma ≠ 0) (hb : mb ≠ 0) :
    2 * 2 ^ F.fracBits ≤ ma * 2 ^ Fp.divShift F mb / mb := by
  have hlog : mb < 2 ^ (Nat.log2 mb + 1) := Nat.lt_log2_self
  rw [Nat.le_div_iff_mul_le (Nat.pos_of_ne_zero hb)]
  calc 2 * 2 ^ F.fracBits * mb ≤ 2 ^ (F.prec + 2) * 2 ^ (Nat.log2 mb + 1) := by
        refine Nat.mul_le_mul ?_ hlog.le
        rw [← Nat.pow_succ']
        exact Nat.pow_le_pow_right (by decide) (by rw [Fp.Format.prec]; omega)
    _ = 2 ^ Fp.divShift F mb := by rw [← Nat.pow_add]; rfl
    _ ≤ ma * 2 ^ Fp.divShift F mb := Nat.le_mul_of_pos_left _ (Nat.pos_of_ne_zero ha)

/-- A quotient is rounded once. -/
theorem Fp.quotient_roundsTo (hF : Fp.Known F) (rm : Rounding) (neg : Bool) (ma : Nat) {mb : Nat} (ea eb : Int)
    (hb : mb ≠ 0) :
    Fp.RoundsTo F rm (Fp.signed neg (((ma : ℚ) * 2 ^ ea) / ((mb : ℚ) * 2 ^ eb))) (F.withSign neg 0, 0)
      (Fp.round F rm neg (2 * (ma * 2 ^ Fp.divShift F mb / mb) +
        (if ma * 2 ^ Fp.divShift F mb % mb = 0 then 0 else 1)) (ea - eb - Fp.divShift F mb - 1)) := by
  have hb0 : (0 : ℚ) < mb := by exact_mod_cast Nat.pos_of_ne_zero hb
  rw [Fp.RoundsTo, Ne, Fp.signed_eq_zero_iff]
  have hzero : (ma : ℚ) * 2 ^ ea / (mb * 2 ^ eb) = 0 ↔ ma = 0 := by simp [zpow_ne_zero, hb]
  rw [hzero]
  constructor
  · intro ha
    have ha0 : (0 : ℚ) < ma := by exact_mod_cast Nat.pos_of_ne_zero ha
    have hpos : (0 : ℚ) < (ma : ℚ) * 2 ^ ea / (mb * 2 ^ eb) := by positivity
    obtain ⟨hsign, habs⟩ := Fp.signed_of_pos neg hpos
    rw [hsign, habs]
    have henough := Fp.divShift_enough (F := F) ha hb
    have hfrac := Fp.fracUnit_pos F
    obtain ⟨sh, hsh⟩ : ∃ sh, sh = Fp.divShift F mb := ⟨_, rfl⟩
    rw [← hsh] at henough ⊢
    have hlast : (if ma * 2 ^ sh % mb = 0 then 0 else 1) = if (ma * 2 ^ sh % mb != 0) = true then 1 else 0 := by
      by_cases h : ma * 2 ^ sh % mb = 0 <;> simp [h]
    have hval : ((ma * 2 ^ sh : Nat) : ℚ) / mb * 2 ^ (ea - eb - sh) = (ma : ℚ) * 2 ^ ea / (mb * 2 ^ eb) := by
      rw [zpow_sub₀ (by norm_num), zpow_sub₀ (by norm_num), zpow_natCast]
      push_cast
      field_simp
    have halike := Fp.alike_quotient (F := F) hb henough (ea - eb - sh)
    rw [hval] at halike
    refine Fp.Rounded.of_alike hF halike ?_
    rw [hlast]
    exact Fp.round_rounded hF (by omega) _
  · rintro rfl
    simp [Fp.round]

end

/-- Settles O55. -/
theorem arithmeticRoundsExactResults : Obligations.ArithmeticRoundsExactResults := by
  unfold Obligations.ArithmeticRoundsExactResults
  intro F G rm a b c i hF hG ha hb hc x y z product zeroSum exact
  obtain ⟨ma, ea, hua, hx⟩ := Fp.read_finite ha
  obtain ⟨mb, eb, hub, hy⟩ := Fp.read_finite hb
  obtain ⟨mc, ec, huc, hz⟩ := Fp.read_finite hc
  have hprod : x * y = Fp.signed product (((ma * mb : Nat) : ℚ) * 2 ^ (ea + eb)) := by
    change Fp.number F a * Fp.number F b = _
    rw [hx, hy, Fp.signed_mul, zpow_add₀ (by norm_num)]
    congr 1
    push_cast
    ring
  have hzeroA : x = 0 ↔ ma = 0 := by
    change Fp.number F a = 0 ↔ _
    rw [hx, Fp.signed_eq_zero_iff]
    simp [zpow_ne_zero]
  have hzeroB : y = 0 ↔ mb = 0 := by
    change Fp.number F b = 0 ↔ _
    rw [hy, Fp.signed_eq_zero_iff]
    simp [zpow_ne_zero]
  have hdiv : Fp.div F rm a b = if mb = 0 then
      if ma = 0 then Fp.invalid F else (F.withSign product F.infPattern, flagDZ)
      else Fp.round F rm product (2 * (ma * 2 ^ Fp.divShift F mb / mb) +
        (if ma * 2 ^ Fp.divShift F mb % mb = 0 then 0 else 1)) (ea - eb - Fp.divShift F mb - 1) := by
    rw [Fp.div, hua, hub]
  obtain ⟨hlt, hneg, hmod⟩ := Fp.negate_fields ha.1
  refine ⟨?_, ?_, ?_, fun hy0 => ?_, fun hy0 hx0 => ?_, fun hy0 hx0 => ?_, ?_, ?_, ⟨hlt, hmod ▸ ha.2⟩, ?_⟩
  · have hadd : Fp.add F rm a b = Fp.addFinite F rm (Fp.negative F a) ma ea (Fp.negative F b) mb eb := by
      rw [Fp.add, hua, hub]
    have h := Fp.addFinite_roundsTo hF rm (Fp.negative F a) (Fp.negative F b) ma mb ea eb
    rw [← hx, ← hy] at h
    rw [hadd]
    exact h
  · have hmul : Fp.mul F rm a b = Fp.round F rm product (ma * mb) (ea + eb) := by rw [Fp.mul, hua, hub]
    rw [hmul, hprod]
    exact Fp.round_roundsTo hF rm product (ma * mb) (ea + eb)
  · have hfma : Fp.fma F rm a b c = Fp.addFinite F rm product (ma * mb) (ea + eb) (Fp.negative F c) mc ec := by
      rw [Fp.fma, hua, hub, huc]
      rfl
    have h := Fp.addFinite_roundsTo hF rm product (Fp.negative F c) (ma * mb) mc (ea + eb) ec
    rw [← hz, ← hprod] at h
    rw [hfma]
    exact h
  · have hb0 : mb ≠ 0 := mt hzeroB.2 hy0
    have h := Fp.quotient_roundsTo hF rm product ma ea eb hb0
    rw [← Fp.signed_div, ← hx, ← hy] at h
    rw [hdiv, if_neg hb0]
    exact h
  · rw [hdiv, if_pos (hzeroB.1 hy0), if_neg (mt hzeroA.2 hx0)]
  · rw [hdiv, if_pos (hzeroB.1 hy0), if_pos (hzeroA.1 hx0)]
    rfl
  · have hi : (i : ℚ) = Fp.signed (decide (i < 0)) ((i.natAbs : ℚ) * 2 ^ (0 : Int)) := by
      rw [Nat.cast_natAbs, Fp.signed]
      rcases lt_or_ge i 0 with h | h
      · simp [h, abs_of_neg h]
      · simp [h.not_gt, abs_of_nonneg h]
    have h := Fp.round_roundsTo hF rm (decide (i < 0)) i.natAbs 0
    rw [← hi] at h
    refine ⟨h.1, fun h0 => (h.2 h0).trans ?_⟩
    have hi0 : i = 0 := by exact_mod_cast h0
    rw [hi0]
    rfl
  · have hconv : Fp.convert F G rm a = Fp.round G rm (Fp.negative F a) ma ea := by rw [Fp.convert, hua]
    have h := Fp.round_roundsTo hG rm (Fp.negative F a) ma ea
    rw [← hx] at h
    rw [hconv]
    exact h
  · rw [Fp.number_eq, hneg, hmod]
    change _ = -Fp.number F a
    rw [Fp.number_eq]
    cases Fp.negative F a <;> simp

end Sys2Proof.Machine
end

section
/-!
PROOFS about square roots and conversions to integers (O56).

The bits of a root are computed down to a grid 2^j, with one more bit that says whether there is a rest. A bound of
rounding lies below the value this stands for exactly when its square lies below the operand (`Fp.RootOf`), so what
rounding says about that value is a statement about squares. A conversion to an integer rounds on the scale 0, and an
integer is the rounded value in one way only.
-/
namespace Sys2Proof.Machine

open Sys2Proof

section

variable {F : Fp.Format} {rm : Rounding}

/-! ## The integer root -/

/-- The bits found so far and those to come enclose the root. -/
theorem Fp.rootFrom_spec (n k r : Nat) (hlo : r * r ≤ n) (hhi : n < (r + 2 ^ k) * (r + 2 ^ k)) :
    Fp.rootFrom n k r * Fp.rootFrom n k r ≤ n ∧ n < (Fp.rootFrom n k r + 1) * (Fp.rootFrom n k r + 1) := by
  induction k generalizing r with
  | zero => exact ⟨hlo, hhi⟩
  | succ k ih =>
    rw [Fp.rootFrom]
    split
    · next h =>
      refine ih _ h ?_
      rwa [Nat.add_assoc, ← Nat.two_mul, ← Nat.pow_succ']
    · next h => exact ih _ hlo (not_le.1 h)

theorem Fp.root_spec {k n : Nat} (h : n < 2 ^ k * 2 ^ k) :
    Fp.root k n * Fp.root k n ≤ n ∧ n < (Fp.root k n + 1) * (Fp.root k n + 1) :=
  Fp.rootFrom_spec n k 0 (Nat.zero_le n) (by rwa [Nat.zero_add])

/-! ## A value that stands for a root -/

/-- Every bound of rounding lies to v as its square lies to x. -/
def Fp.RootOf (F : Fp.Format) (v x : ℚ) : Prop :=
  ∀ t, Fp.Threshold F t → ((t ≤ v ↔ t ^ 2 ≤ x) ∧ (t < v ↔ t ^ 2 < x))

/-- The integer root with its last bit. -/
theorem Fp.rootOf_sticky {n r : Nat} (hlo : r * r ≤ n) (hhi : n < (r + 1) * (r + 1)) (hr : 2 * 2 ^ F.fracBits ≤ r)
    (j : Int) : Fp.RootOf F (Fp.sticky r (r * r != n) j) ((n : ℚ) * (2 ^ j) ^ 2) := by
  have hpos : (0 : ℚ) < 2 ^ j := by positivity
  have hpos2 : (0 : ℚ) < (2 ^ j) ^ 2 := by positivity
  intro t ht
  rcases ht.grid hr j with ⟨c, rfl⟩ | hlt
  · obtain ⟨h1, h2⟩ := Fp.grid_sticky c r (r * r != n) j
    rw [h1, h2, mul_pow, mul_le_mul_iff_left₀ hpos2, mul_lt_mul_iff_left₀ hpos2, pow_two]
    norm_cast
    rcases Nat.lt_trichotomy c r with h | h | h
    · have hmul : c * c < r * r := Nat.mul_self_lt_mul_self h
      exact ⟨iff_of_true h.le (by omega), iff_of_true (.inl h) (by omega)⟩
    · subst h
      simp only [lt_self_iff_false, true_and, false_or, bne_iff_ne, ne_eq]
      exact ⟨iff_of_true le_rfl hlo, by omega⟩
    · have hmul : (r + 1) * (r + 1) ≤ c * c := Nat.mul_self_le_mul_self h
      exact ⟨iff_of_false (by omega) (by omega), iff_of_false (by omega) (by omega)⟩
  · have ht0 : 0 ≤ t := by
      obtain ⟨s, k, -, rfl⟩ := ht
      positivity
    have hst := Fp.le_sticky r (r * r != n) j
    have hlo' : (r : ℚ) ^ 2 ≤ n := by rw [pow_two]; exact_mod_cast hlo
    have hsq : t ^ 2 < (n : ℚ) * (2 ^ j) ^ 2 := by
      calc t ^ 2 < (r * 2 ^ j) ^ 2 := pow_lt_pow_left₀ hlt ht0 two_ne_zero
        _ = (r : ℚ) ^ 2 * (2 ^ j) ^ 2 := mul_pow _ _ _
        _ ≤ n * (2 ^ j) ^ 2 := mul_le_mul_of_nonneg_right hlo' hpos2.le
    exact ⟨iff_of_true (hlt.le.trans hst) hsq.le, iff_of_true (hlt.trans_le hst) hsq⟩

section

variable {v x : ℚ} (h : Fp.RootOf F v x)

include h

theorem Fp.RootOf.magnitude_le {p : Nat} : Fp.magnitude F p ≤ v ↔ Fp.magnitude F p ^ 2 ≤ x :=
  (h _ (Fp.threshold_magnitude p)).1

theorem Fp.RootOf.magnitude_lt {p : Nat} : Fp.magnitude F p < v ↔ Fp.magnitude F p ^ 2 < x :=
  (h _ (Fp.threshold_magnitude p)).2

theorem Fp.RootOf.le_magnitude {p : Nat} : v ≤ Fp.magnitude F p ↔ x ≤ Fp.magnitude F p ^ 2 := by
  rw [← not_lt, h.magnitude_lt, not_lt]

theorem Fp.RootOf.lt_magnitude {p : Nat} : v < Fp.magnitude F p ↔ x < Fp.magnitude F p ^ 2 := by
  rw [← not_le, h.magnitude_le, not_le]

theorem Fp.RootOf.magnitude_eq {p : Nat} : Fp.magnitude F p = v ↔ Fp.magnitude F p ^ 2 = x := by
  rw [le_antisymm_iff, le_antisymm_iff, h.magnitude_le, h.le_magnitude]

/-- Twice the value against a sum whose half is a bound. -/
theorem Fp.RootOf.double {u : ℚ} (hu : Fp.Threshold F (u / 2)) :
    (u ≤ 2 * v ↔ u ^ 2 ≤ 4 * x) ∧ (2 * v ≤ u ↔ 4 * x ≤ u ^ 2) := by
  obtain ⟨h1, h2⟩ := h _ hu
  have hsq : (u / 2) ^ 2 = u ^ 2 / 4 := by ring
  rw [div_le_iff₀' two_pos, hsq, div_le_iff₀' four_pos] at h1
  rw [div_lt_iff₀' two_pos, hsq, div_lt_iff₀' four_pos] at h2
  exact ⟨h1, by rw [← not_lt, h2, not_lt]⟩

/-- A rounded root, with bounds that keep it in the normal range. -/
theorem Fp.RootOf.rounded {r : Nat × BitVec 5} (hr : Fp.Rounded F rm false v r)
    (hlo : Fp.magnitude F (2 ^ F.fracBits) ≤ v) (hhi : v ≤ Fp.magnitude F (F.infPattern - 1)) (hF : Fp.Known F) :
    0 < r.1 ∧ r.1 < F.infPattern ∧ r.2 = (if Fp.magnitude F r.1 ^ 2 = x then 0 else flagNX) ∧
    (rm.inward false = true → Fp.magnitude F r.1 ^ 2 ≤ x ∧ x < Fp.magnitude F (r.1 + 1) ^ 2) ∧
    (rm.outward false = true → Fp.magnitude F (r.1 - 1) ^ 2 < x ∧ x ≤ Fp.magnitude F r.1 ^ 2) ∧
    (rm = .nearestEven ∨ rm = .nearestMax →
      (Fp.magnitude F (r.1 - 1) + Fp.magnitude F r.1) ^ 2 ≤ 4 * x ∧
      4 * x ≤ (Fp.magnitude F r.1 + Fp.magnitude F (r.1 + 1)) ^ 2) := by
  have hmono := Fp.magnitude_strictMono F
  have htop := hF.infPattern_pos
  have hfour := hF.four_le_frac
  have hlast : Fp.magnitude F (F.infPattern - 1) < Fp.magnitude F F.infPattern := hmono (by omega)
  have hone : 0 < Fp.magnitude F 1 := by rw [Fp.magnitude_one]; positivity
  have hno : ¬ Fp.Overflows F rm false v := by
    rintro (⟨-, hv⟩ | ⟨-, hv⟩ | ⟨-, hv⟩) <;> linarith
  have hnormal : ¬ Fp.Tiny F rm false v := by
    rintro (⟨-, hv⟩ | ⟨-, hv⟩ | ⟨-, hv⟩) <;> linarith
  obtain ⟨hp, hsign, hn, hexact, -, hinexact⟩ := (Fp.rounded_iff.1 hr).2 hno
  rw [← show F.withSign false (r.1 % F.signBit) = r.1 % F.signBit by simp [Fp.Format.withSign], ← hsign]
    at hp hn hexact hinexact
  have hpos : r.1 ≠ 0 := by
    rintro h0
    rw [h0] at hn
    have h1 : Fp.magnitude F 1 < Fp.magnitude F (2 ^ F.fracBits) := hmono (by omega)
    have h00 := Fp.magnitude_zero F
    rcases Rounding.directions rm false with hd | hd | hd
    · linarith [(hn.inward hd).2]
    · linarith [(hn.outward hd).1]
    · linarith [(hn.nearest hd).1]
  refine ⟨Nat.pos_of_ne_zero hpos, hp, ?_, fun hd => ?_, fun hd => ?_, fun hd => ?_⟩
  · split
    · next heq => exact hexact (h.magnitude_eq.2 heq)
    · next hne => exact hinexact (mt h.magnitude_eq.1 hne) hnormal
  · exact (hn.inward hd).imp h.magnitude_le.1 h.lt_magnitude.1
  · obtain ⟨h1, h2⟩ := hn.outward hd
    exact ⟨h.magnitude_lt.1 (h2.resolve_left hpos), h.le_magnitude.1 h1⟩
  · obtain ⟨h1, h2⟩ := hn.nearest hd
    exact ⟨(h.double (Fp.threshold_middle_below hpos)).1.1 (h2.resolve_left hpos),
      (h.double (Fp.threshold_middle r.1)).2.1 h1⟩

end

/-! ## The range of roots -/

/-- The number 1 is in the format. -/
theorem Fp.Known.one_pattern (hF : Fp.Known F) : ∃ p, p < F.infPattern ∧ Fp.magnitude F p = 1 := by
  rcases hF with rfl | rfl
  · exact ⟨0x3F800000, by decide, by decide +kernel⟩
  · exact ⟨0x3FF0000000000000, by decide, by decide +kernel⟩

/-- The square of the least normal number lies below every number. -/
theorem Fp.Known.normal_sq_le (hF : Fp.Known F) : Fp.magnitude F (2 ^ F.fracBits) ^ 2 ≤ Fp.magnitude F 1 := by
  have hexp : (F.fracBits : Int) + F.minExp + (F.fracBits + F.minExp) ≤ F.minExp := by
    rcases hF with rfl | rfl <;> decide
  rw [Fp.magnitude_normal, Fp.magnitude_one, ← zpow_natCast 2 F.fracBits, ← zpow_add₀ (by norm_num), pow_two,
    ← zpow_add₀ (by norm_num)]
  exact zpow_le_zpow_right₀ (by norm_num) hexp

/-- The root of a positive number lies in the normal range. -/
theorem Fp.RootOf.range (hF : Fp.Known F) {v : ℚ} {p : Nat} (h : Fp.RootOf F v (Fp.magnitude F p)) (hp0 : p ≠ 0)
    (hp : p < F.infPattern) :
    Fp.magnitude F (2 ^ F.fracBits) ≤ v ∧ v ≤ Fp.magnitude F (F.infPattern - 1) := by
  have hmono := (Fp.magnitude_strictMono F).monotone
  obtain ⟨one, hone, hval⟩ := hF.one_pattern
  have hge : 1 ≤ Fp.magnitude F (F.infPattern - 1) := hval ▸ hmono (by omega)
  rw [h.magnitude_le, h.le_magnitude]
  constructor
  · exact hF.normal_sq_le.trans (hmono (by omega))
  · calc Fp.magnitude F p ≤ Fp.magnitude F (F.infPattern - 1) := hmono (by omega)
      _ ≤ Fp.magnitude F (F.infPattern - 1) ^ 2 := le_self_pow₀ hge two_ne_zero

/-! ## The square root -/

/-- The significand of a finite pattern. -/
theorem Fp.significand_lt_of_unpack {a m : Nat} {e : Int} {neg : Bool} (h : Fp.finite F a)
    (hu : Fp.unpack F a = .fin neg m e) : m < 2 ^ F.prec := by
  rw [Fp.unpack_of_finite h.2] at hu
  obtain ⟨-, rfl, -⟩ := Fp.Value.fin.inj hu
  rw [Fp.Format.prec, Nat.pow_succ']
  exact (Fp.significand_bounds F (a % F.signBit)).1

/-- The shift of a significand makes its exponent even. -/
def Fp.rootShift (F : Fp.Format) (e : Int) : Nat := 2 * F.prec + 4 + (if e % 2 = 0 then 0 else 1)

theorem Fp.rootShift_bounds (F : Fp.Format) (e : Int) :
    2 * F.prec + 4 ≤ Fp.rootShift F e ∧ Fp.rootShift F e ≤ 2 * F.prec + 5 ∧
    e = Fp.rootShift F e + 2 * ((e - Fp.rootShift F e) / 2) := by
  rw [Fp.rootShift]
  split <;> push_cast <;> omega

/-- The integer root of a shifted significand has enough bits, and is the root. -/
theorem Fp.root_of_significand {m : Nat} (hm0 : m ≠ 0) (hm : m < 2 ^ F.prec) (e : Int) :
    let n := m * 2 ^ Fp.rootShift F e
    let r := Fp.root (2 * F.prec + 3) n
    2 * 2 ^ F.fracBits ≤ r ∧ r * r ≤ n ∧ n < (r + 1) * (r + 1) := by
  intro n r
  obtain ⟨hlow, hhigh, -⟩ := Fp.rootShift_bounds F e
  have hn : n < 2 ^ (2 * F.prec + 3) * 2 ^ (2 * F.prec + 3) := by
    calc n < 2 ^ F.prec * 2 ^ Fp.rootShift F e := Nat.mul_lt_mul_of_pos_right hm (Nat.two_pow_pos _)
      _ = 2 ^ (F.prec + Fp.rootShift F e) := (Nat.pow_add 2 _ _).symm
      _ ≤ 2 ^ (2 * F.prec + 3 + (2 * F.prec + 3)) := Nat.pow_le_pow_right (by decide) (by omega)
      _ = _ := Nat.pow_add 2 _ _
  obtain ⟨hlo, hhi⟩ := Fp.root_spec hn
  refine ⟨?_, hlo, hhi⟩
  have hge : 2 ^ (F.prec + 2) * 2 ^ (F.prec + 2) ≤ n := by
    calc 2 ^ (F.prec + 2) * 2 ^ (F.prec + 2) = 2 ^ (F.prec + 2 + (F.prec + 2)) := (Nat.pow_add 2 _ _).symm
      _ ≤ 2 ^ Fp.rootShift F e := Nat.pow_le_pow_right (by decide) (by omega)
      _ ≤ n := Nat.le_mul_of_pos_left _ (Nat.pos_of_ne_zero hm0)
  have hlt : 2 ^ (F.prec + 2) < r + 1 := Nat.mul_self_lt_mul_self_iff.1 (hge.trans_lt hhi)
  have hpow : 2 * 2 ^ F.fracBits ≤ 2 ^ (F.prec + 2) := by
    rw [← Nat.pow_succ']
    exact Nat.pow_le_pow_right (by decide) (by rw [Fp.Format.prec]; omega)
  omega

/-- The root of a positive finite number is a rounded value that stands for it. -/
theorem Fp.sqrt_rounded (hF : Fp.Known F) {a m : Nat} {e : Int} (ha : Fp.finite F a)
    (hu : Fp.unpack F a = .fin false m e) (hm0 : m ≠ 0) :
    ∃ v, Fp.RootOf F v ((m : ℚ) * 2 ^ e) ∧ Fp.Rounded F rm false v (Fp.sqrt F rm a) := by
  obtain ⟨hr, hlo, hhi⟩ := Fp.root_of_significand hm0 (Fp.significand_lt_of_unpack ha hu) e
  obtain ⟨-, -, heven⟩ := Fp.rootShift_bounds F e
  have hsqrt : Fp.sqrt F rm a = Fp.round F rm false
      (2 * Fp.root (2 * F.prec + 3) (m * 2 ^ Fp.rootShift F e) +
        (if Fp.root (2 * F.prec + 3) (m * 2 ^ Fp.rootShift F e) * Fp.root (2 * F.prec + 3) (m * 2 ^ Fp.rootShift F e) =
          m * 2 ^ Fp.rootShift F e then 0 else 1)) ((e - Fp.rootShift F e) / 2 - 1) := by
    rw [Fp.sqrt, hu]
    exact (if_neg hm0).trans (if_neg Bool.false_ne_true)
  rw [hsqrt]
  generalize Fp.root (2 * F.prec + 3) (m * 2 ^ Fp.rootShift F e) = r at hr hlo hhi ⊢
  generalize (e - Fp.rootShift F e) / 2 = j at heven ⊢
  have hval : ((m * 2 ^ Fp.rootShift F e : Nat) : ℚ) * (2 ^ j) ^ 2 = m * 2 ^ e := by
    have hsplit : (2 : ℚ) ^ e = 2 ^ Fp.rootShift F e * (2 ^ j) ^ 2 := by
      rw [← zpow_natCast, ← zpow_natCast, ← zpow_mul, ← zpow_add₀ (by norm_num)]
      congr 1
      push_cast
      omega
    rw [hsplit]
    push_cast
    ring
  have hlast : (if r * r = m * 2 ^ Fp.rootShift F e then 0 else 1) =
      if (r * r != m * 2 ^ Fp.rootShift F e) = true then 1 else 0 := by
    by_cases h : r * r = m * 2 ^ Fp.rootShift F e <;> simp [h]
  have hfrac := Fp.fracUnit_pos F
  refine ⟨_, hval ▸ Fp.rootOf_sticky hlo hhi hr j, ?_⟩
  rw [hlast]
  exact Fp.round_rounded hF (by omega) _

/-- The root of a zero is that zero, of a negative number there is none. -/
theorem Fp.sqrt_zero {a : Nat} (ha : Fp.finite F a) (h0 : a % F.signBit = 0) : Fp.sqrt F rm a = (a, 0) := by
  obtain ⟨m, e, hu, -, hm⟩ := Fp.unpack_finite ha
  have hzero : F.withSign (Fp.negative F a) 0 = a := by rw [← h0, ← Fp.eq_withSign ha.1]
  rw [Fp.sqrt, hu]
  exact (if_pos (hm.2 h0)).trans (by rw [hzero])

theorem Fp.sqrt_negative {a : Nat} (ha : Fp.finite F a) (h0 : a % F.signBit ≠ 0) (hneg : Fp.negative F a = true) :
    Fp.sqrt F rm a = Fp.invalid F := by
  obtain ⟨m, e, hu, -, hm⟩ := Fp.unpack_finite ha
  rw [Fp.sqrt, hu]
  exact (if_neg (mt hm.1 h0)).trans (if_pos hneg)

/-! ## Conversions to integers -/

/-- Two integers within a half of a value are one, or neighbours with the value in the middle. -/
theorem Fp.nearest_eq_or_tie {v : ℚ} {n k : Int} (hn : 2 * |v - n| ≤ 1) (hk : 2 * |v - k| ≤ 1) :
    n = k ∨ (2 * |v - n| = 1 ∧ 2 * |v - k| = 1 ∧ 2 * v = n + k ∧ (n = k + 1 ∨ k = n + 1)) := by
  rw [or_iff_not_imp_left]
  intro hne
  obtain ⟨hn1, hn2⟩ := abs_le.1 (show |v - n| ≤ 1 / 2 by linarith)
  obtain ⟨hk1, hk2⟩ := abs_le.1 (show |v - k| ≤ 1 / 2 by linarith)
  have hhalf : |(1 / 2 : ℚ)| = 1 / 2 := abs_of_pos (by norm_num)
  have hle : n ≤ k + 1 := by exact_mod_cast (by linarith : (n : ℚ) ≤ k + 1)
  have hge : k ≤ n + 1 := by exact_mod_cast (by linarith : (k : ℚ) ≤ n + 1)
  rcases (by omega : n = k + 1 ∨ k = n + 1) with rfl | rfl
  · push_cast at hn1 hn2 ⊢
    have hv : v = k + 1 / 2 := by linarith
    have h1 : v - (k + 1) = -(1 / 2) := by rw [hv]; ring
    have h2 : v - k = 1 / 2 := by rw [hv]; ring
    rw [h1, h2, abs_neg, hhalf]
    exact ⟨by norm_num, by norm_num, by rw [hv]; ring, .inl rfl⟩
  · push_cast at hk1 hk2 ⊢
    have hv : v = n + 1 / 2 := by linarith
    have h1 : v - (n + 1) = -(1 / 2) := by rw [hv]; ring
    have h2 : v - n = 1 / 2 := by rw [hv]; ring
    rw [h1, h2, abs_neg, hhalf]
    exact ⟨by norm_num, by norm_num, by rw [hv]; ring, .inr rfl⟩

/-- Of two neighbours, the one nearer to zero lies nearer to it than their middle. -/
theorem Fp.not_away_from_both {v : ℚ} {k : Int} (hv : 2 * v = k + (k + 1 : Int)) :
    ¬ (|v| < |(k : ℚ)| ∧ |v| < |((k + 1 : Int) : ℚ)|) := by
  rintro ⟨h1, h2⟩
  push_cast at hv h2
  rcases le_or_gt 0 k with hk | hk
  · rw [abs_of_nonneg (by exact_mod_cast hk : (0 : ℚ) ≤ k)] at h1
    linarith [le_abs_self v]
  · rw [abs_of_nonpos (by exact_mod_cast hk : (k : ℚ) + 1 ≤ 0)] at h2
    linarith [neg_le_abs v]

/-- An integer is the rounded value in one way only. -/
theorem Fp.RoundedToInt.unique {v : ℚ} {n k : Int} (hn : Fp.RoundedToInt rm v n) (hk : Fp.RoundedToInt rm v k) :
    n = k := by
  cases rm with
  | towardZero => exact hn.trans hk.symm
  | down => exact hn.trans hk.symm
  | up => exact hn.trans hk.symm
  | nearestEven =>
    obtain ⟨hn1, hn2⟩ := hn
    obtain ⟨hk1, hk2⟩ := hk
    rcases Fp.nearest_eq_or_tie hn1 hk1 with heq | ⟨htn, htk, -, hstep⟩
    · exact heq
    · have := hn2 htn
      have := hk2 htk
      omega
  | nearestMax =>
    obtain ⟨hn1, hn2⟩ := hn
    obtain ⟨hk1, hk2⟩ := hk
    rcases Fp.nearest_eq_or_tie hn1 hk1 with heq | ⟨htn, htk, hmid, rfl | rfl⟩
    · exact heq
    · exact absurd ⟨hk2 htk, hn2 htn⟩ (Fp.not_away_from_both (by rw [hmid, add_comm]))
    · exact absurd ⟨hn2 htn, hk2 htk⟩ (Fp.not_away_from_both hmid)

theorem Fp.signed_natCast (neg : Bool) (k : Nat) :
    ((if neg then -(k : Int) else k : Int) : ℚ) = Fp.signed neg k := by
  cases neg <;> simp [Fp.signed]

theorem Fp.abs_signed (neg : Bool) {u : ℚ} (hu : 0 ≤ u) : |Fp.signed neg u| = u := by
  cases neg <;> simp [Fp.signed, abs_of_nonneg hu]

theorem Fp.abs_signed_sub (neg : Bool) (u w : ℚ) : |Fp.signed neg u - Fp.signed neg w| = |u - w| := by
  cases neg
  · rfl
  · rw [Fp.signed, Fp.signed, if_pos rfl, if_pos rfl, neg_sub_neg, abs_sub_comm]

/-- A rounded magnitude with its sign is the rounded value. -/
theorem Fp.IntRounded.roundedToInt {neg : Bool} {u : ℚ} {k : Nat} (hu : 0 ≤ u) (h : Fp.IntRounded rm neg u k) :
    Fp.RoundedToInt rm (Fp.signed neg u) (if neg then -(k : Int) else k) := by
  have hhalf : rm = .nearestEven ∨ rm = .nearestMax → 2 * |Fp.signed neg u - Fp.signed neg k| ≤ 1 := fun hd => by
    obtain ⟨h1, h2⟩ := h.nearest hd
    have habs : |u - k| ≤ 1 / 2 := abs_le.2 ⟨by linarith, by linarith⟩
    rw [Fp.abs_signed_sub]
    linarith
  have htie : 2 * |Fp.signed neg u - Fp.signed neg k| = 1 → 2 * u = 2 * k + 1 ∨ 2 * u = 2 * k - 1 := fun ht => by
    rw [Fp.abs_signed_sub] at ht
    rcases abs_cases (u - k) with ⟨habs, -⟩ | ⟨habs, -⟩
    · exact .inl (by linarith)
    · exact .inr (by linarith)
  have hfloor : (k : ℚ) ≤ u ∧ u < k + 1 → ⌊u⌋ = k ∧ ⌈-u⌉ = -(k : Int) := fun hb => by
    have hfl : ⌊u⌋ = k := Int.floor_eq_iff.2 (by exact_mod_cast hb)
    exact ⟨hfl, by rw [Int.ceil_neg, hfl]⟩
  have hceil : u ≤ k ∧ (k : ℚ) - 1 < u → ⌈u⌉ = k ∧ ⌊-u⌋ = -(k : Int) := fun hb => by
    have hc : ⌈u⌉ = k := Int.ceil_eq_iff.2 (by exact_mod_cast hb.symm)
    exact ⟨hc, by rw [Int.floor_neg, hc]⟩
  cases rm with
  | towardZero =>
    obtain ⟨hfl, hc⟩ := hfloor (h.inward rfl)
    cases neg with
    | false => exact ((if_neg hu.not_gt).trans hfl).symm
    | true =>
      rcases hu.eq_or_lt with rfl | hpos
      · have h0 := (h.inward rfl).1
        have hk : k = 0 := by exact_mod_cast le_antisymm h0 (by positivity)
        subst hk
        simp [Fp.RoundedToInt, Fp.signed]
      · exact ((if_pos (neg_lt_zero.2 hpos)).trans hc).symm
  | down =>
    cases neg with
    | false => exact (hfloor (h.inward rfl)).1.symm
    | true => exact (hceil (h.outward rfl)).2.symm
  | up =>
    cases neg with
    | false => exact (hceil (h.outward rfl)).1.symm
    | true => exact (hfloor (h.inward rfl)).2.symm
  | nearestEven =>
    rw [Fp.RoundedToInt, Fp.signed_natCast]
    refine ⟨hhalf (.inl rfl), fun ht => ?_⟩
    have heven := h.even rfl (htie ht)
    split <;> omega
  | nearestMax =>
    rw [Fp.RoundedToInt, Fp.signed_natCast]
    refine ⟨hhalf (.inr rfl), fun ht => ?_⟩
    have haway := h.away rfl
    rw [Fp.abs_signed _ hu, Fp.abs_signed _ (Nat.cast_nonneg k)]
    rcases htie ht with heq | heq <;> linarith

/-- A finite number is converted to its rounded value, saturated. -/
theorem Fp.toInt_finite {a : Nat} (ha : Fp.finite F a) (signed : Bool) (width : Nat) {n : Int}
    (hn : Fp.RoundedToInt rm (Fp.number F a) n) :
    Fp.toInt F rm a signed width =
      if n < Fp.intMin signed width then (Fp.intMin signed width, flagNV)
      else if Fp.intMax signed width < n then (Fp.intMax signed width, flagNV)
      else (n, if (n : ℚ) = Fp.number F a then 0 else flagNX) := by
  obtain ⟨m, e, hu, hx⟩ := Fp.read_finite ha
  obtain ⟨hround, hexact⟩ := Fp.toScale_spec rm (Fp.negative F a) m e 0
  rw [sub_zero] at hround hexact
  rw [hx] at hn ⊢
  rw [Fp.toInt, hu, hn.unique (hround.roundedToInt (by positivity)), Fp.signed_natCast]
  have hflag : flagIf (Fp.toScale rm (Fp.negative F a) m e 0).2 flagNX =
      if Fp.signed (Fp.negative F a) ((Fp.toScale rm (Fp.negative F a) m e 0).1 : ℚ) =
        Fp.signed (Fp.negative F a) ((m : ℚ) * 2 ^ e) then 0 else flagNX := by
    have hinj : ∀ (neg : Bool) (u w : ℚ), Fp.signed neg u = Fp.signed neg w ↔ u = w := fun neg u w => by
      cases neg <;> simp [Fp.signed]
    have hiff := hexact.trans (hinj (Fp.negative F a) _ _).symm
    by_cases h : (Fp.toScale rm (Fp.negative F a) m e 0).2 = false
    · rw [if_pos (hiff.1 h), h]
      rfl
    · rw [if_neg (mt hiff.2 h), eq_true_of_ne_false h]
      rfl
  rw [← hflag]

end

/-- Settles O56. -/
theorem rootsAndIntegerConversionsRound : Obligations.RootsAndIntegerConversionsRound := by
  unfold Obligations.RootsAndIntegerConversionsRound
  intro F rm a signed width n hF ha hwidth x r mag least greatest converted
  have hnum : x = if Fp.negative F a then -Fp.magnitude F (a % F.signBit) else Fp.magnitude F (a % F.signBit) :=
    Fp.number_eq F a
  have hmag0 := Fp.magnitude_nonneg F (a % F.signBit)
  refine ⟨fun hfin => ⟨fun hx => ?_, fun hx => ?_, fun hx => ?_, fun hn => ?_⟩, fun hinf => ⟨?_, ?_⟩,
    fun hnan => ⟨?_, ?_⟩⟩
  · refine Fp.sqrt_zero hfin ((Fp.magnitude_eq_zero_iff F _).1 ?_)
    split at hnum <;> linarith
  · refine Fp.sqrt_negative hfin (fun h0 => ?_) ?_
    · rw [h0, Fp.magnitude_zero] at hnum
      simp [hnum] at hx
    · by_contra hpos
      rw [if_neg hpos] at hnum
      linarith
  · have hpos : Fp.negative F a = false := by
      by_contra hneg
      rw [if_pos (eq_true_of_ne_false hneg)] at hnum
      linarith
    rw [hpos, if_neg Bool.false_ne_true] at hnum
    obtain ⟨m, e, hu, hmag, hm⟩ := Fp.unpack_finite hfin
    have hp0 : a % F.signBit ≠ 0 := mt (Fp.magnitude_eq_zero_iff F _).2 (by linarith)
    obtain ⟨v, hroot, hround⟩ := Fp.sqrt_rounded (rm := rm) hF hfin (hpos ▸ hu) (mt hm.1 hp0)
    rw [← hmag] at hroot
    obtain ⟨hlo, hhi⟩ := hroot.range hF hp0 hfin.2
    rw [hnum]
    exact hroot.rounded hround hlo hhi hF
  · exact Fp.toInt_finite hfin signed width hn
  · change Fp.toInt F rm a signed width = _
    rw [Fp.toInt, Fp.unpack_infinitePattern hinf]
    rfl
  · change Fp.sqrt F rm a = _
    rw [Fp.sqrt, Fp.unpack_infinitePattern hinf]
    have hpos := Fp.infinity_negative ha hinf
    cases hneg : Fp.negative F a
    · rwa [hneg] at hpos
    · rfl
  · change Fp.toInt F rm a signed width = _
    rw [Fp.toInt, Fp.unpack_nanPattern hnan]
    rfl
  · change Fp.sqrt F rm a = _
    rw [Fp.sqrt, Fp.unpack_nanPattern hnan]
    rfl

end Sys2Proof.Machine
end
